-- ==== Sys2Proof/Word.lean ====
section
/-! DEFINITION. The two widths of the 8085 (spec/00_scope.md R5): bytes and 16-bit words. -/

namespace Sys2Proof

/-- The general register, flag byte, memory and port width: 8 bits (00_scope.md R5). -/
abbrev Byte := BitVec 8

/-- The width of PC, SP, the register pairs and an address: 16 bits (00_scope.md R5). -/
abbrev Word := BitVec 16

end Sys2Proof
end

