-- ==== Sys2Proof/Syntax.lean ====
section
/-! DEFINITION. The instructions: one constructor per row of spec/opcode_table.json, that is, per value of byte 1
(spec/30_encoding.md R89, R90). Register, pair, condition and restart operands are part of byte 1 and so of the
constructor; `byte`, `port`, `dble` and `adr` are the operand bytes (00_scope.md R11). The
three-byte instructions stand first, then the two-byte, the one-byte and the undefined rows, each in the table's order. -/

namespace Sys2Proof

/-- One instruction of the 8085, by the row of spec/opcode_table.json. -/
inductive Instr where
  /-- 01: LXI B,dble (R125). -/
  | lxiB (dble : Word)
  /-- 11: LXI D,dble (R125). -/
  | lxiD (dble : Word)
  /-- 21: LXI H,dble (R125). -/
  | lxiH (dble : Word)
  /-- 22: SHLD adr (R129). -/
  | shld (adr : Word)
  /-- 2A: LHLD adr (R128). -/
  | lhld (adr : Word)
  /-- 31: LXI SP,dble (R125). -/
  | lxiSP (dble : Word)
  /-- 32: STA adr (R131). -/
  | sta (adr : Word)
  /-- 3A: LDA adr (R130). -/
  | lda (adr : Word)
  /-- C2: JNZ adr (R192). -/
  | jnz (adr : Word)
  /-- C3: JMP adr (R191). -/
  | jmp (adr : Word)
  /-- C4: CNZ adr (R202). -/
  | cnz (adr : Word)
  /-- CA: JZ adr (R193). -/
  | jz (adr : Word)
  /-- CC: CZ adr (R203). -/
  | cz (adr : Word)
  /-- CD: CALL adr (R201). -/
  | call (adr : Word)
  /-- D2: JNC adr (R194). -/
  | jnc (adr : Word)
  /-- D4: CNC adr (R204). -/
  | cnc (adr : Word)
  /-- DA: JC adr (R195). -/
  | jc (adr : Word)
  /-- DC: CC adr (R205). -/
  | cc (adr : Word)
  /-- E2: JPO adr (R196). -/
  | jpo (adr : Word)
  /-- E4: CPO adr (R206). -/
  | cpo (adr : Word)
  /-- EA: JPE adr (R197). -/
  | jpe (adr : Word)
  /-- EC: CPE adr (R207). -/
  | cpe (adr : Word)
  /-- F2: JP adr (R198). -/
  | jp (adr : Word)
  /-- F4: CP adr (R208). -/
  | cp (adr : Word)
  /-- FA: JM adr (R199). -/
  | jm (adr : Word)
  /-- FC: CM adr (R209). -/
  | cm (adr : Word)
  /-- 06: MVI B,byte (R123). -/
  | mviB (byte : Byte)
  /-- 0E: MVI C,byte (R123). -/
  | mviC (byte : Byte)
  /-- 16: MVI D,byte (R123). -/
  | mviD (byte : Byte)
  /-- 1E: MVI E,byte (R123). -/
  | mviE (byte : Byte)
  /-- 26: MVI H,byte (R123). -/
  | mviH (byte : Byte)
  /-- 2E: MVI L,byte (R123). -/
  | mviL (byte : Byte)
  /-- 36: MVI M,byte (R124). -/
  | mviM (byte : Byte)
  /-- 3E: MVI A,byte (R123). -/
  | mviA (byte : Byte)
  /-- C6: ADI byte (R167). -/
  | adi (byte : Byte)
  /-- CE: ACI byte (R168). -/
  | aci (byte : Byte)
  /-- D3: OUT byte (R238). -/
  | outPort (port : Byte)
  /-- D6: SUI byte (R169). -/
  | sui (byte : Byte)
  /-- DB: IN byte (R237). -/
  | inPort (port : Byte)
  /-- DE: SBI byte (R170). -/
  | sbi (byte : Byte)
  /-- E6: ANI byte (R171). -/
  | ani (byte : Byte)
  /-- EE: XRI byte (R172). -/
  | xri (byte : Byte)
  /-- F6: ORI byte (R173). -/
  | ori (byte : Byte)
  /-- FE: CPI byte (R174). -/
  | cpi (byte : Byte)
  /-- 00: NOP (R242). -/
  | nop
  /-- 02: STAX B (R127). -/
  | staxB
  /-- 03: INX B (R151). -/
  | inxB
  /-- 04: INR B (R149). -/
  | inrB
  /-- 05: DCR B (R152). -/
  | dcrB
  /-- 07: RLC (R159). -/
  | rlc
  /-- 09: DAD B (R148). -/
  | dadB
  /-- 0A: LDAX B (R126). -/
  | ldaxB
  /-- 0B: DCX B (R154). -/
  | dcxB
  /-- 0C: INR C (R149). -/
  | inrC
  /-- 0D: DCR C (R152). -/
  | dcrC
  /-- 0F: RRC (R160). -/
  | rrc
  /-- 12: STAX D (R127). -/
  | staxD
  /-- 13: INX D (R151). -/
  | inxD
  /-- 14: INR D (R149). -/
  | inrD
  /-- 15: DCR D (R152). -/
  | dcrD
  /-- 17: RAL (R161). -/
  | ral
  /-- 19: DAD D (R148). -/
  | dadD
  /-- 1A: LDAX D (R126). -/
  | ldaxD
  /-- 1B: DCX D (R154). -/
  | dcxD
  /-- 1C: INR E (R149). -/
  | inrE
  /-- 1D: DCR E (R152). -/
  | dcrE
  /-- 1F: RAR (R162). -/
  | rar
  /-- 20: RIM (R244). -/
  | rim
  /-- 23: INX H (R151). -/
  | inxH
  /-- 24: INR H (R149). -/
  | inrH
  /-- 25: DCR H (R152). -/
  | dcrH
  /-- 27: DAA (R155). -/
  | daa
  /-- 29: DAD H (R148). -/
  | dadH
  /-- 2B: DCX H (R154). -/
  | dcxH
  /-- 2C: INR L (R149). -/
  | inrL
  /-- 2D: DCR L (R152). -/
  | dcrL
  /-- 2F: CMA (R156). -/
  | cma
  /-- 30: SIM (R245). -/
  | sim
  /-- 33: INX SP (R151). -/
  | inxSP
  /-- 34: INR M (R150). -/
  | inrM
  /-- 35: DCR M (R153). -/
  | dcrM
  /-- 37: STC (R157). -/
  | stc
  /-- 39: DAD SP (R148). -/
  | dadSP
  /-- 3B: DCX SP (R154). -/
  | dcxSP
  /-- 3C: INR A (R149). -/
  | inrA
  /-- 3D: DCR A (R152). -/
  | dcrA
  /-- 3F: CMC (R158). -/
  | cmc
  /-- 40: MOV B,B (R120). -/
  | movBB
  /-- 41: MOV B,C (R120). -/
  | movBC
  /-- 42: MOV B,D (R120). -/
  | movBD
  /-- 43: MOV B,E (R120). -/
  | movBE
  /-- 44: MOV B,H (R120). -/
  | movBH
  /-- 45: MOV B,L (R120). -/
  | movBL
  /-- 46: MOV B,M (R121). -/
  | movBM
  /-- 47: MOV B,A (R120). -/
  | movBA
  /-- 48: MOV C,B (R120). -/
  | movCB
  /-- 49: MOV C,C (R120). -/
  | movCC
  /-- 4A: MOV C,D (R120). -/
  | movCD
  /-- 4B: MOV C,E (R120). -/
  | movCE
  /-- 4C: MOV C,H (R120). -/
  | movCH
  /-- 4D: MOV C,L (R120). -/
  | movCL
  /-- 4E: MOV C,M (R121). -/
  | movCM
  /-- 4F: MOV C,A (R120). -/
  | movCA
  /-- 50: MOV D,B (R120). -/
  | movDB
  /-- 51: MOV D,C (R120). -/
  | movDC
  /-- 52: MOV D,D (R120). -/
  | movDD
  /-- 53: MOV D,E (R120). -/
  | movDE
  /-- 54: MOV D,H (R120). -/
  | movDH
  /-- 55: MOV D,L (R120). -/
  | movDL
  /-- 56: MOV D,M (R121). -/
  | movDM
  /-- 57: MOV D,A (R120). -/
  | movDA
  /-- 58: MOV E,B (R120). -/
  | movEB
  /-- 59: MOV E,C (R120). -/
  | movEC
  /-- 5A: MOV E,D (R120). -/
  | movED
  /-- 5B: MOV E,E (R120). -/
  | movEE
  /-- 5C: MOV E,H (R120). -/
  | movEH
  /-- 5D: MOV E,L (R120). -/
  | movEL
  /-- 5E: MOV E,M (R121). -/
  | movEM
  /-- 5F: MOV E,A (R120). -/
  | movEA
  /-- 60: MOV H,B (R120). -/
  | movHB
  /-- 61: MOV H,C (R120). -/
  | movHC
  /-- 62: MOV H,D (R120). -/
  | movHD
  /-- 63: MOV H,E (R120). -/
  | movHE
  /-- 64: MOV H,H (R120). -/
  | movHH
  /-- 65: MOV H,L (R120). -/
  | movHL
  /-- 66: MOV H,M (R121). -/
  | movHM
  /-- 67: MOV H,A (R120). -/
  | movHA
  /-- 68: MOV L,B (R120). -/
  | movLB
  /-- 69: MOV L,C (R120). -/
  | movLC
  /-- 6A: MOV L,D (R120). -/
  | movLD
  /-- 6B: MOV L,E (R120). -/
  | movLE
  /-- 6C: MOV L,H (R120). -/
  | movLH
  /-- 6D: MOV L,L (R120). -/
  | movLL
  /-- 6E: MOV L,M (R121). -/
  | movLM
  /-- 6F: MOV L,A (R120). -/
  | movLA
  /-- 70: MOV M,B (R122). -/
  | movMB
  /-- 71: MOV M,C (R122). -/
  | movMC
  /-- 72: MOV M,D (R122). -/
  | movMD
  /-- 73: MOV M,E (R122). -/
  | movME
  /-- 74: MOV M,H (R122). -/
  | movMH
  /-- 75: MOV M,L (R122). -/
  | movML
  /-- 76: HLT (R243). -/
  | hlt
  /-- 77: MOV M,A (R122). -/
  | movMA
  /-- 78: MOV A,B (R120). -/
  | movAB
  /-- 79: MOV A,C (R120). -/
  | movAC
  /-- 7A: MOV A,D (R120). -/
  | movAD
  /-- 7B: MOV A,E (R120). -/
  | movAE
  /-- 7C: MOV A,H (R120). -/
  | movAH
  /-- 7D: MOV A,L (R120). -/
  | movAL
  /-- 7E: MOV A,M (R121). -/
  | movAM
  /-- 7F: MOV A,A (R120). -/
  | movAA
  /-- 80: ADD B (R144). -/
  | addB
  /-- 81: ADD C (R144). -/
  | addC
  /-- 82: ADD D (R144). -/
  | addD
  /-- 83: ADD E (R144). -/
  | addE
  /-- 84: ADD H (R144). -/
  | addH
  /-- 85: ADD L (R144). -/
  | addL
  /-- 86: ADD M (R144). -/
  | addM
  /-- 87: ADD A (R144). -/
  | addA
  /-- 88: ADC B (R145). -/
  | adcB
  /-- 89: ADC C (R145). -/
  | adcC
  /-- 8A: ADC D (R145). -/
  | adcD
  /-- 8B: ADC E (R145). -/
  | adcE
  /-- 8C: ADC H (R145). -/
  | adcH
  /-- 8D: ADC L (R145). -/
  | adcL
  /-- 8E: ADC M (R145). -/
  | adcM
  /-- 8F: ADC A (R145). -/
  | adcA
  /-- 90: SUB B (R146). -/
  | subB
  /-- 91: SUB C (R146). -/
  | subC
  /-- 92: SUB D (R146). -/
  | subD
  /-- 93: SUB E (R146). -/
  | subE
  /-- 94: SUB H (R146). -/
  | subH
  /-- 95: SUB L (R146). -/
  | subL
  /-- 96: SUB M (R146). -/
  | subM
  /-- 97: SUB A (R146). -/
  | subA
  /-- 98: SBB B (R147). -/
  | sbbB
  /-- 99: SBB C (R147). -/
  | sbbC
  /-- 9A: SBB D (R147). -/
  | sbbD
  /-- 9B: SBB E (R147). -/
  | sbbE
  /-- 9C: SBB H (R147). -/
  | sbbH
  /-- 9D: SBB L (R147). -/
  | sbbL
  /-- 9E: SBB M (R147). -/
  | sbbM
  /-- 9F: SBB A (R147). -/
  | sbbA
  /-- A0: ANA B (R163). -/
  | anaB
  /-- A1: ANA C (R163). -/
  | anaC
  /-- A2: ANA D (R163). -/
  | anaD
  /-- A3: ANA E (R163). -/
  | anaE
  /-- A4: ANA H (R163). -/
  | anaH
  /-- A5: ANA L (R163). -/
  | anaL
  /-- A6: ANA M (R163). -/
  | anaM
  /-- A7: ANA A (R163). -/
  | anaA
  /-- A8: XRA B (R164). -/
  | xraB
  /-- A9: XRA C (R164). -/
  | xraC
  /-- AA: XRA D (R164). -/
  | xraD
  /-- AB: XRA E (R164). -/
  | xraE
  /-- AC: XRA H (R164). -/
  | xraH
  /-- AD: XRA L (R164). -/
  | xraL
  /-- AE: XRA M (R164). -/
  | xraM
  /-- AF: XRA A (R164). -/
  | xraA
  /-- B0: ORA B (R165). -/
  | oraB
  /-- B1: ORA C (R165). -/
  | oraC
  /-- B2: ORA D (R165). -/
  | oraD
  /-- B3: ORA E (R165). -/
  | oraE
  /-- B4: ORA H (R165). -/
  | oraH
  /-- B5: ORA L (R165). -/
  | oraL
  /-- B6: ORA M (R165). -/
  | oraM
  /-- B7: ORA A (R165). -/
  | oraA
  /-- B8: CMP B (R166). -/
  | cmpB
  /-- B9: CMP C (R166). -/
  | cmpC
  /-- BA: CMP D (R166). -/
  | cmpD
  /-- BB: CMP E (R166). -/
  | cmpE
  /-- BC: CMP H (R166). -/
  | cmpH
  /-- BD: CMP L (R166). -/
  | cmpL
  /-- BE: CMP M (R166). -/
  | cmpM
  /-- BF: CMP A (R166). -/
  | cmpA
  /-- C0: RNZ (R211). -/
  | rnz
  /-- C1: POP B (R233). -/
  | popB
  /-- C5: PUSH B (R231). -/
  | pushB
  /-- C7: RST 0 (R219). -/
  | rst0
  /-- C8: RZ (R212). -/
  | rz
  /-- C9: RET (R210). -/
  | ret
  /-- CF: RST 1 (R219). -/
  | rst1
  /-- D0: RNC (R213). -/
  | rnc
  /-- D1: POP D (R233). -/
  | popD
  /-- D5: PUSH D (R231). -/
  | pushD
  /-- D7: RST 2 (R219). -/
  | rst2
  /-- D8: RC (R214). -/
  | rc
  /-- DF: RST 3 (R219). -/
  | rst3
  /-- E0: RPO (R215). -/
  | rpo
  /-- E1: POP H (R233). -/
  | popH
  /-- E3: XTHL (R235). -/
  | xthl
  /-- E5: PUSH H (R231). -/
  | pushH
  /-- E7: RST 4 (R219). -/
  | rst4
  /-- E8: RPE (R216). -/
  | rpe
  /-- E9: PCHL (R200). -/
  | pchl
  /-- EB: XCHG (R132). -/
  | xchg
  /-- EF: RST 5 (R219). -/
  | rst5
  /-- F0: RP (R217). -/
  | rp
  /-- F1: POP PSW (R234). -/
  | popPSW
  /-- F3: DI (R239). -/
  | di
  /-- F5: PUSH PSW (R232). -/
  | pushPSW
  /-- F7: RST 6 (R219). -/
  | rst6
  /-- F8: RM (R218). -/
  | rm
  /-- F9: SPHL (R236). -/
  | sphl
  /-- FB: EI (R240). -/
  | ei
  /-- FF: RST 7 (R219). -/
  | rst7
  /-- 08: undefined opcode (R90). -/
  | undef08
  /-- 10: undefined opcode (R90). -/
  | undef10
  /-- 18: undefined opcode (R90). -/
  | undef18
  /-- 28: undefined opcode (R90). -/
  | undef28
  /-- 38: undefined opcode (R90). -/
  | undef38
  /-- CB: undefined opcode (R90). -/
  | undefCB
  /-- D9: undefined opcode (R90). -/
  | undefD9
  /-- DD: undefined opcode (R90). -/
  | undefDD
  /-- ED: undefined opcode (R90). -/
  | undefED
  /-- FD: undefined opcode (R90). -/
  | undefFD
deriving DecidableEq, Repr

end Sys2Proof
end

