-- ==== Sys2Proof/Decode.lean ====
section
/-! DEFINITION. Decoding and encoding (spec/30_encoding.md R80 to R91). Byte 1 alone selects the format and the
instruction; `opcodeRow` is the matrix of rule R89, row by row. -/

namespace Sys2Proof

/-- `hi ++ lo`, the 16-bit value of operand bytes 3 and 2 (R81, R84; 20_memory.md R53). -/
def joinBytes (hi lo : Byte) : Word := hi ++ lo

/-- Bits 15:8 of a 16-bit value. -/
def highByte (w : Word) : Byte := w.extractLsb' 8 8

/-- Bits 7:0 of a 16-bit value. -/
def lowByte (w : Word) : Byte := w.extractLsb' 0 8

/-- The format of a value of byte 1 with the instruction it selects, given its operand bytes (R81). -/
inductive Format where
  /-- One byte. -/
  | f1 (i : Instr)
  /-- Two bytes: `byte` follows. -/
  | f2 (mk : Byte → Instr)
  /-- Three bytes: the low byte, then the high byte of `dble` or `adr`, follow. -/
  | f3 (mk : Word → Instr)
  /-- One of the ten values with no instruction and no length (R90). -/
  | undefined (i : Instr)

/-- Row 0x of the opcode map (R89). -/
def opcodeRow0 : List Format :=
  [.f1 .nop, .f3 .lxiB, .f1 .staxB, .f1 .inxB,
   .f1 .inrB, .f1 .dcrB, .f2 .mviB, .f1 .rlc,
   .undefined .undef08, .f1 .dadB, .f1 .ldaxB, .f1 .dcxB,
   .f1 .inrC, .f1 .dcrC, .f2 .mviC, .f1 .rrc]

/-- Row 1x of the opcode map (R89). -/
def opcodeRow1 : List Format :=
  [.undefined .undef10, .f3 .lxiD, .f1 .staxD, .f1 .inxD,
   .f1 .inrD, .f1 .dcrD, .f2 .mviD, .f1 .ral,
   .undefined .undef18, .f1 .dadD, .f1 .ldaxD, .f1 .dcxD,
   .f1 .inrE, .f1 .dcrE, .f2 .mviE, .f1 .rar]

/-- Row 2x of the opcode map (R89). -/
def opcodeRow2 : List Format :=
  [.f1 .rim, .f3 .lxiH, .f3 .shld, .f1 .inxH,
   .f1 .inrH, .f1 .dcrH, .f2 .mviH, .f1 .daa,
   .undefined .undef28, .f1 .dadH, .f3 .lhld, .f1 .dcxH,
   .f1 .inrL, .f1 .dcrL, .f2 .mviL, .f1 .cma]

/-- Row 3x of the opcode map (R89). -/
def opcodeRow3 : List Format :=
  [.f1 .sim, .f3 .lxiSP, .f3 .sta, .f1 .inxSP,
   .f1 .inrM, .f1 .dcrM, .f2 .mviM, .f1 .stc,
   .undefined .undef38, .f1 .dadSP, .f3 .lda, .f1 .dcxSP,
   .f1 .inrA, .f1 .dcrA, .f2 .mviA, .f1 .cmc]

/-- Row 4x of the opcode map (R89). -/
def opcodeRow4 : List Format :=
  [.f1 .movBB, .f1 .movBC, .f1 .movBD, .f1 .movBE,
   .f1 .movBH, .f1 .movBL, .f1 .movBM, .f1 .movBA,
   .f1 .movCB, .f1 .movCC, .f1 .movCD, .f1 .movCE,
   .f1 .movCH, .f1 .movCL, .f1 .movCM, .f1 .movCA]

/-- Row 5x of the opcode map (R89). -/
def opcodeRow5 : List Format :=
  [.f1 .movDB, .f1 .movDC, .f1 .movDD, .f1 .movDE,
   .f1 .movDH, .f1 .movDL, .f1 .movDM, .f1 .movDA,
   .f1 .movEB, .f1 .movEC, .f1 .movED, .f1 .movEE,
   .f1 .movEH, .f1 .movEL, .f1 .movEM, .f1 .movEA]

/-- Row 6x of the opcode map (R89). -/
def opcodeRow6 : List Format :=
  [.f1 .movHB, .f1 .movHC, .f1 .movHD, .f1 .movHE,
   .f1 .movHH, .f1 .movHL, .f1 .movHM, .f1 .movHA,
   .f1 .movLB, .f1 .movLC, .f1 .movLD, .f1 .movLE,
   .f1 .movLH, .f1 .movLL, .f1 .movLM, .f1 .movLA]

/-- Row 7x of the opcode map (R89). -/
def opcodeRow7 : List Format :=
  [.f1 .movMB, .f1 .movMC, .f1 .movMD, .f1 .movME,
   .f1 .movMH, .f1 .movML, .f1 .hlt, .f1 .movMA,
   .f1 .movAB, .f1 .movAC, .f1 .movAD, .f1 .movAE,
   .f1 .movAH, .f1 .movAL, .f1 .movAM, .f1 .movAA]

/-- Row 8x of the opcode map (R89). -/
def opcodeRow8 : List Format :=
  [.f1 .addB, .f1 .addC, .f1 .addD, .f1 .addE,
   .f1 .addH, .f1 .addL, .f1 .addM, .f1 .addA,
   .f1 .adcB, .f1 .adcC, .f1 .adcD, .f1 .adcE,
   .f1 .adcH, .f1 .adcL, .f1 .adcM, .f1 .adcA]

/-- Row 9x of the opcode map (R89). -/
def opcodeRow9 : List Format :=
  [.f1 .subB, .f1 .subC, .f1 .subD, .f1 .subE,
   .f1 .subH, .f1 .subL, .f1 .subM, .f1 .subA,
   .f1 .sbbB, .f1 .sbbC, .f1 .sbbD, .f1 .sbbE,
   .f1 .sbbH, .f1 .sbbL, .f1 .sbbM, .f1 .sbbA]

/-- Row Ax of the opcode map (R89). -/
def opcodeRowA : List Format :=
  [.f1 .anaB, .f1 .anaC, .f1 .anaD, .f1 .anaE,
   .f1 .anaH, .f1 .anaL, .f1 .anaM, .f1 .anaA,
   .f1 .xraB, .f1 .xraC, .f1 .xraD, .f1 .xraE,
   .f1 .xraH, .f1 .xraL, .f1 .xraM, .f1 .xraA]

/-- Row Bx of the opcode map (R89). -/
def opcodeRowB : List Format :=
  [.f1 .oraB, .f1 .oraC, .f1 .oraD, .f1 .oraE,
   .f1 .oraH, .f1 .oraL, .f1 .oraM, .f1 .oraA,
   .f1 .cmpB, .f1 .cmpC, .f1 .cmpD, .f1 .cmpE,
   .f1 .cmpH, .f1 .cmpL, .f1 .cmpM, .f1 .cmpA]

/-- Row Cx of the opcode map (R89). -/
def opcodeRowC : List Format :=
  [.f1 .rnz, .f1 .popB, .f3 .jnz, .f3 .jmp,
   .f3 .cnz, .f1 .pushB, .f2 .adi, .f1 .rst0,
   .f1 .rz, .f1 .ret, .f3 .jz, .undefined .undefCB,
   .f3 .cz, .f3 .call, .f2 .aci, .f1 .rst1]

/-- Row Dx of the opcode map (R89). -/
def opcodeRowD : List Format :=
  [.f1 .rnc, .f1 .popD, .f3 .jnc, .f2 .outPort,
   .f3 .cnc, .f1 .pushD, .f2 .sui, .f1 .rst2,
   .f1 .rc, .undefined .undefD9, .f3 .jc, .f2 .inPort,
   .f3 .cc, .undefined .undefDD, .f2 .sbi, .f1 .rst3]

/-- Row Ex of the opcode map (R89). -/
def opcodeRowE : List Format :=
  [.f1 .rpo, .f1 .popH, .f3 .jpo, .f1 .xthl,
   .f3 .cpo, .f1 .pushH, .f2 .ani, .f1 .rst4,
   .f1 .rpe, .f1 .pchl, .f3 .jpe, .f1 .xchg,
   .f3 .cpe, .undefined .undefED, .f2 .xri, .f1 .rst5]

/-- Row Fx of the opcode map (R89). -/
def opcodeRowF : List Format :=
  [.f1 .rp, .f1 .popPSW, .f3 .jp, .f1 .di,
   .f3 .cp, .f1 .pushPSW, .f2 .ori, .f1 .rst6,
   .f1 .rm, .f1 .sphl, .f3 .jm, .f1 .ei,
   .f3 .cm, .undefined .undefFD, .f2 .cpi, .f1 .rst7]

/-- The row of the opcode map that the high hexadecimal digit of byte 1 selects (R89). -/
def opcodeRow : Nat → List Format
  | 0 => opcodeRow0
  | 1 => opcodeRow1
  | 2 => opcodeRow2
  | 3 => opcodeRow3
  | 4 => opcodeRow4
  | 5 => opcodeRow5
  | 6 => opcodeRow6
  | 7 => opcodeRow7
  | 8 => opcodeRow8
  | 9 => opcodeRow9
  | 10 => opcodeRowA
  | 11 => opcodeRowB
  | 12 => opcodeRowC
  | 13 => opcodeRowD
  | 14 => opcodeRowE
  | _ => opcodeRowF

/-- The cell of the opcode map for byte 1 (R89). Every row has sixteen cells, so the default is never taken. -/
def formatOf (op : Byte) : Format :=
  (opcodeRow (op.toNat / 16)).getD (op.toNat % 16) (.undefined .undef08)

/-- How many bytes an instruction of this format has; an undefined value has no length (R83, R90). -/
def Format.length : Format → Option Nat
  | .f1 _ => some 1
  | .f2 _ => some 2
  | .f3 _ => some 3
  | .undefined _ => none

/-- Why bytes decode to nothing. -/
inductive DecodeError where
  /-- There is no byte 1. -/
  | noOpcode
  /-- Byte 1 selects an instruction whose operand bytes are not all there. -/
  | operandMissing (op : Byte)
deriving DecidableEq, Repr

/-- Reads the operand bytes that the format asks for (R81, R84) and answers the instruction and the bytes after it. An
undefined value of byte 1 is answered as the undefined row it is, one byte taken: it has no length (R90) and the machine
refuses it before any other byte matters. -/
def assemble (op : Byte) : Format → List Byte → Except DecodeError (Instr × List Byte)
  | .f1 i, rest => .ok (i, rest)
  | .undefined i, rest => .ok (i, rest)
  | .f2 mk, b :: rest => .ok (mk b, rest)
  | .f2 _, [] => .error (.operandMissing op)
  | .f3 mk, lo :: hi :: rest => .ok (mk (joinBytes hi lo), rest)
  | .f3 _, [_] => .error (.operandMissing op)
  | .f3 _, [] => .error (.operandMissing op)

/-- The instruction at the head of a list of bytes, and the bytes after it (R80). -/
def decode : List Byte → Except DecodeError (Instr × List Byte)
  | [] => .error .noOpcode
  | op :: rest => assemble op (formatOf op) rest

/-- Byte `k` of an instruction whose bits are `w`, byte 1 the least significant; a byte the table gives no bits is 0. -/
def tableByte (nbits w k : Nat) : Byte :=
  if 8 * k < nbits then BitVec.ofNat 8 (w / 256 ^ k) else 0

/-- The three bytes (the longest instruction) of the instruction whose bits are `w`, in memory order. -/
def tableBytes (nbits w : Nat) : List Byte :=
  [tableByte nbits w 0, tableByte nbits w 1, tableByte nbits w 2]

/-- The instruction the decoder reads from the bits `w` of a row of spec/opcode_table.json. -/
def decodeTableWord (nbits w : Nat) : Option Instr :=
  match decode (tableBytes nbits w) with
  | .ok (i, _) => some i
  | .error _ => none

/-- The bytes of an instruction (R81, R89), in ascending address order. -/
def encode : Instr → List Byte
  | .nop => [0x00]
  | .lxiB dble => [0x01, lowByte dble, highByte dble]
  | .staxB => [0x02]
  | .inxB => [0x03]
  | .inrB => [0x04]
  | .dcrB => [0x05]
  | .mviB byte => [0x06, byte]
  | .rlc => [0x07]
  | .undef08 => [0x08]
  | .dadB => [0x09]
  | .ldaxB => [0x0A]
  | .dcxB => [0x0B]
  | .inrC => [0x0C]
  | .dcrC => [0x0D]
  | .mviC byte => [0x0E, byte]
  | .rrc => [0x0F]
  | .undef10 => [0x10]
  | .lxiD dble => [0x11, lowByte dble, highByte dble]
  | .staxD => [0x12]
  | .inxD => [0x13]
  | .inrD => [0x14]
  | .dcrD => [0x15]
  | .mviD byte => [0x16, byte]
  | .ral => [0x17]
  | .undef18 => [0x18]
  | .dadD => [0x19]
  | .ldaxD => [0x1A]
  | .dcxD => [0x1B]
  | .inrE => [0x1C]
  | .dcrE => [0x1D]
  | .mviE byte => [0x1E, byte]
  | .rar => [0x1F]
  | .rim => [0x20]
  | .lxiH dble => [0x21, lowByte dble, highByte dble]
  | .shld adr => [0x22, lowByte adr, highByte adr]
  | .inxH => [0x23]
  | .inrH => [0x24]
  | .dcrH => [0x25]
  | .mviH byte => [0x26, byte]
  | .daa => [0x27]
  | .undef28 => [0x28]
  | .dadH => [0x29]
  | .lhld adr => [0x2A, lowByte adr, highByte adr]
  | .dcxH => [0x2B]
  | .inrL => [0x2C]
  | .dcrL => [0x2D]
  | .mviL byte => [0x2E, byte]
  | .cma => [0x2F]
  | .sim => [0x30]
  | .lxiSP dble => [0x31, lowByte dble, highByte dble]
  | .sta adr => [0x32, lowByte adr, highByte adr]
  | .inxSP => [0x33]
  | .inrM => [0x34]
  | .dcrM => [0x35]
  | .mviM byte => [0x36, byte]
  | .stc => [0x37]
  | .undef38 => [0x38]
  | .dadSP => [0x39]
  | .lda adr => [0x3A, lowByte adr, highByte adr]
  | .dcxSP => [0x3B]
  | .inrA => [0x3C]
  | .dcrA => [0x3D]
  | .mviA byte => [0x3E, byte]
  | .cmc => [0x3F]
  | .movBB => [0x40]
  | .movBC => [0x41]
  | .movBD => [0x42]
  | .movBE => [0x43]
  | .movBH => [0x44]
  | .movBL => [0x45]
  | .movBM => [0x46]
  | .movBA => [0x47]
  | .movCB => [0x48]
  | .movCC => [0x49]
  | .movCD => [0x4A]
  | .movCE => [0x4B]
  | .movCH => [0x4C]
  | .movCL => [0x4D]
  | .movCM => [0x4E]
  | .movCA => [0x4F]
  | .movDB => [0x50]
  | .movDC => [0x51]
  | .movDD => [0x52]
  | .movDE => [0x53]
  | .movDH => [0x54]
  | .movDL => [0x55]
  | .movDM => [0x56]
  | .movDA => [0x57]
  | .movEB => [0x58]
  | .movEC => [0x59]
  | .movED => [0x5A]
  | .movEE => [0x5B]
  | .movEH => [0x5C]
  | .movEL => [0x5D]
  | .movEM => [0x5E]
  | .movEA => [0x5F]
  | .movHB => [0x60]
  | .movHC => [0x61]
  | .movHD => [0x62]
  | .movHE => [0x63]
  | .movHH => [0x64]
  | .movHL => [0x65]
  | .movHM => [0x66]
  | .movHA => [0x67]
  | .movLB => [0x68]
  | .movLC => [0x69]
  | .movLD => [0x6A]
  | .movLE => [0x6B]
  | .movLH => [0x6C]
  | .movLL => [0x6D]
  | .movLM => [0x6E]
  | .movLA => [0x6F]
  | .movMB => [0x70]
  | .movMC => [0x71]
  | .movMD => [0x72]
  | .movME => [0x73]
  | .movMH => [0x74]
  | .movML => [0x75]
  | .hlt => [0x76]
  | .movMA => [0x77]
  | .movAB => [0x78]
  | .movAC => [0x79]
  | .movAD => [0x7A]
  | .movAE => [0x7B]
  | .movAH => [0x7C]
  | .movAL => [0x7D]
  | .movAM => [0x7E]
  | .movAA => [0x7F]
  | .addB => [0x80]
  | .addC => [0x81]
  | .addD => [0x82]
  | .addE => [0x83]
  | .addH => [0x84]
  | .addL => [0x85]
  | .addM => [0x86]
  | .addA => [0x87]
  | .adcB => [0x88]
  | .adcC => [0x89]
  | .adcD => [0x8A]
  | .adcE => [0x8B]
  | .adcH => [0x8C]
  | .adcL => [0x8D]
  | .adcM => [0x8E]
  | .adcA => [0x8F]
  | .subB => [0x90]
  | .subC => [0x91]
  | .subD => [0x92]
  | .subE => [0x93]
  | .subH => [0x94]
  | .subL => [0x95]
  | .subM => [0x96]
  | .subA => [0x97]
  | .sbbB => [0x98]
  | .sbbC => [0x99]
  | .sbbD => [0x9A]
  | .sbbE => [0x9B]
  | .sbbH => [0x9C]
  | .sbbL => [0x9D]
  | .sbbM => [0x9E]
  | .sbbA => [0x9F]
  | .anaB => [0xA0]
  | .anaC => [0xA1]
  | .anaD => [0xA2]
  | .anaE => [0xA3]
  | .anaH => [0xA4]
  | .anaL => [0xA5]
  | .anaM => [0xA6]
  | .anaA => [0xA7]
  | .xraB => [0xA8]
  | .xraC => [0xA9]
  | .xraD => [0xAA]
  | .xraE => [0xAB]
  | .xraH => [0xAC]
  | .xraL => [0xAD]
  | .xraM => [0xAE]
  | .xraA => [0xAF]
  | .oraB => [0xB0]
  | .oraC => [0xB1]
  | .oraD => [0xB2]
  | .oraE => [0xB3]
  | .oraH => [0xB4]
  | .oraL => [0xB5]
  | .oraM => [0xB6]
  | .oraA => [0xB7]
  | .cmpB => [0xB8]
  | .cmpC => [0xB9]
  | .cmpD => [0xBA]
  | .cmpE => [0xBB]
  | .cmpH => [0xBC]
  | .cmpL => [0xBD]
  | .cmpM => [0xBE]
  | .cmpA => [0xBF]
  | .rnz => [0xC0]
  | .popB => [0xC1]
  | .jnz adr => [0xC2, lowByte adr, highByte adr]
  | .jmp adr => [0xC3, lowByte adr, highByte adr]
  | .cnz adr => [0xC4, lowByte adr, highByte adr]
  | .pushB => [0xC5]
  | .adi byte => [0xC6, byte]
  | .rst0 => [0xC7]
  | .rz => [0xC8]
  | .ret => [0xC9]
  | .jz adr => [0xCA, lowByte adr, highByte adr]
  | .undefCB => [0xCB]
  | .cz adr => [0xCC, lowByte adr, highByte adr]
  | .call adr => [0xCD, lowByte adr, highByte adr]
  | .aci byte => [0xCE, byte]
  | .rst1 => [0xCF]
  | .rnc => [0xD0]
  | .popD => [0xD1]
  | .jnc adr => [0xD2, lowByte adr, highByte adr]
  | .outPort port => [0xD3, port]
  | .cnc adr => [0xD4, lowByte adr, highByte adr]
  | .pushD => [0xD5]
  | .sui byte => [0xD6, byte]
  | .rst2 => [0xD7]
  | .rc => [0xD8]
  | .undefD9 => [0xD9]
  | .jc adr => [0xDA, lowByte adr, highByte adr]
  | .inPort port => [0xDB, port]
  | .cc adr => [0xDC, lowByte adr, highByte adr]
  | .undefDD => [0xDD]
  | .sbi byte => [0xDE, byte]
  | .rst3 => [0xDF]
  | .rpo => [0xE0]
  | .popH => [0xE1]
  | .jpo adr => [0xE2, lowByte adr, highByte adr]
  | .xthl => [0xE3]
  | .cpo adr => [0xE4, lowByte adr, highByte adr]
  | .pushH => [0xE5]
  | .ani byte => [0xE6, byte]
  | .rst4 => [0xE7]
  | .rpe => [0xE8]
  | .pchl => [0xE9]
  | .jpe adr => [0xEA, lowByte adr, highByte adr]
  | .xchg => [0xEB]
  | .cpe adr => [0xEC, lowByte adr, highByte adr]
  | .undefED => [0xED]
  | .xri byte => [0xEE, byte]
  | .rst5 => [0xEF]
  | .rp => [0xF0]
  | .popPSW => [0xF1]
  | .jp adr => [0xF2, lowByte adr, highByte adr]
  | .di => [0xF3]
  | .cp adr => [0xF4, lowByte adr, highByte adr]
  | .pushPSW => [0xF5]
  | .ori byte => [0xF6, byte]
  | .rst6 => [0xF7]
  | .rm => [0xF8]
  | .sphl => [0xF9]
  | .jm adr => [0xFA, lowByte adr, highByte adr]
  | .ei => [0xFB]
  | .cm adr => [0xFC, lowByte adr, highByte adr]
  | .undefFD => [0xFD]
  | .cpi byte => [0xFE, byte]
  | .rst7 => [0xFF]

end Sys2Proof
end

