-- ==== Sys2Proof/Config.lean ====
section
/-! DEFINITION. What an implementation or the environment fixes and the spec leaves open: the reading of memory that
nothing has written, and the free values (`any` of spec/00_scope.md R9). A free value is an opaque constant applied to
the number of the draw, so that nothing can be proved of it. -/

namespace Sys2Proof

/-- The bytes an interrupting device puts on the bus during one INTR acknowledge: an opcode byte and the two bytes
that would be its operands (60_exceptions.md R258). -/
structure IntaReply where
  op : Byte
  byte2 : Byte
  byte3 : Byte
deriving DecidableEq, Repr, Inhabited

/-- What an address that the memory list does not hold reads as. DESIGN CHOICE, unsafe (log 2): the spec leaves memory
unspecified at power-on (10_state.md R35); 00h is the convention of the vectors of 95_test_vectors.md. -/
def Config.unlistedByte : Byte := 0

/-- The byte read from an absent address (20_memory.md R51: "a read returns `any` byte"). Free value, log 6. -/
opaque Config.absentByte : Nat → Byte

/-- The byte a port or a device address answers when State's queue of answers is empty (20_memory.md R51, R58; 93 U5).
Free value, log 5. -/
opaque Config.deviceByte : Nat → Byte

/-- One bit the spec calls `any`, when State's queue of them is empty: a flag-byte bit marked UNDEFINED (10_state.md R29), bit 3 of RIM right after EI
(43_stack_io_machine_control.md R244), IE_AT_TRAP of a TRAP taken right after EI (60_exceptions.md R259).
Free value, log 6, 7, 8. -/
opaque Config.anyBit : Nat → Bool

/-- The bytes of an INTR acknowledge when State's queue of them is empty (60_exceptions.md R258). Free value, log 11. -/
opaque Config.intaBytes : Nat → IntaReply

end Sys2Proof
end

