-- ==== Sys2Proof/Machine/State.lean ====
section
/-! DEFINITION. The state of the 8085 (spec/10_state.md R34) with its memory (20_memory.md R50) and the open parameters
of spec/00_scope.md R6 as plain data; the reasons a step can stop; the state after reset (10_state.md R35). -/

namespace Sys2Proof.Machine

/-- The seven 8-bit registers (10_state.md R20). The pairs BC, DE and HL are views of them (R22). -/
structure Regs where
  a : Byte
  b : Byte
  c : Byte
  d : Byte
  e : Byte
  h : Byte
  l : Byte
deriving DecidableEq, Repr

/-- The five flags (10_state.md R25, R26). The three undefined bits of the flag byte are not state (R29). -/
structure Flags where
  s : Bool
  z : Bool
  ac : Bool
  p : Bool
  cy : Bool
deriving DecidableEq, Repr

/-- Memory: the bytes that differ from what an unlisted address reads as, addresses strictly rising. -/
abbrev Memory := List Host.Cell

/-- What stands at an address (20_memory.md R51). -/
inductive MemKind where
  /-- A read returns the last byte written, or the launch value. -/
  | ram
  /-- A read returns a fixed byte; a write changes nothing. -/
  | rom
  /-- A read is answered by the environment; a write is delivered to it. -/
  | device
  /-- A read returns any byte; a write changes nothing. -/
  | absent
deriving DecidableEq, Repr

/-- The addresses `first` to `last`, both included, and what stands there. -/
structure Region where
  first : Word
  last : Word
  kind : MemKind
deriving DecidableEq, Repr

/-- One sample of the environment's inputs: the six of 60_exceptions.md R252 and the serial input line
(10_state.md R32). -/
structure Lines where
  reset : Bool
  trap : Bool
  r75 : Bool
  r65 : Bool
  r55 : Bool
  intr : Bool
  sid : Bool
deriving DecidableEq, Repr

/-- Every line low and no reset requested. -/
def Lines.low : Lines :=
  { reset := false, trap := false, r75 := false, r65 := false, r55 := false, intr := false, sid := false }

/-- One access to a port or to a device address, as the environment sees it (20_memory.md R51, R58). -/
inductive BusEvent where
  /-- IN read the port and was answered the value. -/
  | portRead (port value : Byte)
  /-- OUT wrote the value to the port. -/
  | portWrite (port value : Byte)
  /-- A read of a device address was answered the value. -/
  | deviceRead (addr : Word) (value : Byte)
  /-- The value was written to a device address. -/
  | deviceWrite (addr : Word) (value : Byte)
deriving DecidableEq, Repr

/-- The environment as the MODEL carries it: what it presents now and will present, and what it has received. None of
this is the processor's state (00_scope.md R14, R15); log 4, 5, 6, 11. -/
structure Env where
  /-- The levels presented at the latest step. -/
  lines : Lines
  /-- The samples of the coming steps, one taken per step; when none is left the levels stay as they are. -/
  samples : List Lines
  /-- What the environment will answer to the coming port reads and device reads, in order. -/
  answers : List Byte
  /-- What the interrupting device will supply at the coming INTR acknowledges, in order. -/
  inta : List IntaReply
  /-- The parameter UndefFlagBits (00_scope.md R6) and the other bits the spec calls `any`, in the order they will be
  drawn. -/
  bits : List Bool
  /-- The port and device accesses made so far, oldest first: the observable output (43 R238, D27). -/
  events : List BusEvent
  /-- How many free values have been drawn. -/
  draws : Nat
deriving DecidableEq, Repr

/-- The 8085's state (10_state.md R34), memory, the memory map parameter and the environment. -/
structure State where
  regs : Regs
  flags : Flags
  /-- Stack pointer (10_state.md R24). -/
  sp : Word
  /-- Program counter (10_state.md R23). -/
  pc : Word
  /-- IE, the interrupt enable flag (10_state.md R30). -/
  ie : Bool
  /-- M7_5, the RST 7.5 mask: true blocks (10_state.md R30). -/
  m75 : Bool
  /-- M6_5, the RST 6.5 mask: true blocks (10_state.md R30). -/
  m65 : Bool
  /-- M5_5, the RST 5.5 mask: true blocks (10_state.md R30). -/
  m55 : Bool
  /-- I7_5, the RST 7.5 request flip-flop (10_state.md R31). -/
  i75 : Bool
  /-- TRAP_LATCH (10_state.md R31). -/
  trapLatch : Bool
  /-- SOD, the serial output data latch (10_state.md R32). -/
  sod : Bool
  /-- HALTED (10_state.md R33). -/
  halted : Bool
  /-- EI_PENDING (10_state.md R33). -/
  eiPending : Bool
  /-- IE_AT_TRAP (10_state.md R33). -/
  ieAtTrap : Bool
  /-- IE_AT_TRAP_VALID (10_state.md R33). -/
  ieAtTrapValid : Bool
  /-- The RST 7.5 level seen at the previous step (10_state.md R34, 60_exceptions.md R253). -/
  prev75 : Bool
  /-- The TRAP level seen at the previous step (10_state.md R34, 60_exceptions.md R253). -/
  prevTrap : Bool
  /-- The content of memory (20_memory.md R50). -/
  mem : Memory
  /-- The parameter MemMap (20_memory.md R51): the first region that holds an address says what stands there; an address
  in no region is RAM (log 3). No step changes it. -/
  map : List Region
  /-- The environment, the model's own. -/
  env : Env
deriving DecidableEq, Repr

/-- The reasons the machine can stop with a fault: none. The 8085 has no synchronous exception (60_exceptions.md R250) and
the spec treats nothing as a fault (93_implementation_defined.md), so no constructor exists and no step faults. -/
inductive Fault where
deriving DecidableEq, Repr

/-- The reasons a step has no meaning. Each is safe: the model stops where the hardware goes on. -/
inductive Refusal where
  /-- Raised by exec for an instruction that has no meaning yet; no arm raises it now. Safe. -/
  | notModelled (mnemonic : String)
  /-- Raised by the meanings of the ten undefined values of byte 1 (30_encoding.md R90). Safe. -/
  | undefinedOpcode (op : Byte)
  /-- Raised by an INTR acknowledge whose supplied instruction is neither RST nor CALL (60_exceptions.md R258). Safe. -/
  | intaNotRstOrCall (op : Byte)
  /-- Raised by the fetch when an operand byte of a conditional jump or call that is not taken lies at a device address: the
  spec does not promise that the hardware reads it, and refuses such a memory map (42_branch_control.md R220, 93 U8).
  Safe. -/
  | unpromisedOperandRead (addr : Word)
deriving DecidableEq, Repr

/-- What an instruction or a step answers. -/
abbrev Result := Host.Outcome State Fault Refusal

/-- The environment of the reset state: every line low, nothing queued, nothing received (log 4, 5, 6, 11). -/
def Env.initial : Env :=
  { lines := Lines.low, samples := [], answers := [], inta := [], bits := [], events := [], draws := 0 }

/-- The machine right after reset (10_state.md R35, 70_reset_and_hazards.md R280, R281). A to L, the flags, SP and memory
are unspecified by R35; the zeros here, and IE_AT_TRAP, are the model's DESIGN CHOICE (log 1, 2). -/
def State.reset : State :=
  { regs := { a := 0, b := 0, c := 0, d := 0, e := 0, h := 0, l := 0 }
    flags := { s := false, z := false, ac := false, p := false, cy := false }
    sp := 0
    pc := 0x0000
    ie := false
    m75 := true
    m65 := true
    m55 := true
    i75 := false
    trapLatch := false
    sod := false
    halted := false
    eiPending := false
    ieAtTrap := false
    ieAtTrapValid := false
    prev75 := false
    prevTrap := false
    mem := []
    map := []
    env := Env.initial }

end Sys2Proof.Machine
end

