-- ==== Sys2Proof/Machine/Ops.lean ====
section
/-! DEFINITION. The shared operations: memory and its map (spec/20_memory.md R51 to R57), ports (R58), free values, the
stack (43_stack_io_machine_control.md R230), sampling and latching of the input lines, interrupt acceptance and entry
(60_exceptions.md R252 to R260), the return, and the reset event (70_reset_and_hazards.md R280). -/

namespace Sys2Proof.Machine

/-! ## The memory list -/

/-- The byte the list holds at an address, or what an unlisted address reads as. -/
def Memory.read : Memory → Nat → Byte
  | [], _ => Config.unlistedByte
  | (k, v) :: rest, a => if k = a then v else Memory.read rest a

/-- Puts a cell before a list whose addresses are larger, or leaves it out when it holds what an unlisted address reads
as. -/
def Memory.cons (a : Nat) (v : Byte) (m : Memory) : Memory :=
  if v = Config.unlistedByte then m else (a, v) :: m

/-- Stores a byte and keeps the list canonical. -/
def Memory.write : Memory → Nat → Byte → Memory
  | [], a, v => Memory.cons a v []
  | (k, w) :: rest, a, v =>
    if a < k then Memory.cons a v ((k, w) :: rest)
    else if a = k then Memory.cons a v rest
    else (k, w) :: Memory.write rest a v

/-- The list is canonical from an address up: addresses strictly rising, below 65536, and no cell equal to what an
unlisted address reads as. -/
def Memory.wfFrom : Nat → Memory → Bool
  | _, [] => true
  | lo, (k, v) :: rest => lo ≤ k && k < 65536 && v != Config.unlistedByte && Memory.wfFrom (k + 1) rest

/-- The canonical form of memory. -/
def Memory.wf (m : Memory) : Bool := Memory.wfFrom 0 m

/-- The byte that memory holds at an address: what a read of RAM or ROM returns (20_memory.md R51). -/
def State.byteAt (s : State) (a : Word) : Byte := s.mem.read a.toNat

/-! ## The memory map -/

/-- The region holds the address. -/
def Region.holds (r : Region) (a : Word) : Bool := r.first.toNat ≤ a.toNat && a.toNat ≤ r.last.toNat

/-- What stands at an address: the first region that holds it says; RAM where none does (log 3). -/
def kindIn : List Region → Word → MemKind
  | [], _ => .ram
  | r :: rest, a => if r.holds a then r.kind else kindIn rest a

/-- What stands at an address (20_memory.md R51). -/
def State.kindAt (s : State) (a : Word) : MemKind := kindIn s.map a

/-! ## The environment: free values, answers, events -/

/-- Draws a bit the spec calls `any`: the next of the queue, or a free value when it is empty (log 6). -/
def State.anyBit (s : State) : Bool × State :=
  match s.env.bits with
  | v :: rest => (v, { s with env := { s.env with bits := rest } })
  | [] => (Config.anyBit s.env.draws, { s with env := { s.env with draws := s.env.draws + 1 } })

/-- Draws the byte an absent address reads as (20_memory.md R51). -/
def State.absentByte (s : State) : Byte × State :=
  (Config.absentByte s.env.draws, { s with env := { s.env with draws := s.env.draws + 1 } })

/-- Takes the environment's answer to a port or device read: the next of the queue, or a free value when it is empty. -/
def State.answer (s : State) : Byte × State :=
  match s.env.answers with
  | v :: rest => (v, { s with env := { s.env with answers := rest } })
  | [] => (Config.deviceByte s.env.draws, { s with env := { s.env with draws := s.env.draws + 1 } })

/-- Appends what the environment has received to the sequence of events, in program order (20_memory.md R62). -/
def State.record (e : BusEvent) (s : State) : State :=
  { s with env := { s.env with events := s.env.events ++ [e] } }

/-! ## Memory and port accesses -/

/-- `MemRead(a, 1)` (20_memory.md R51, R52): the byte, and the state after the transfer. -/
def State.memRead (a : Word) (s : State) : Byte × State :=
  match s.kindAt a with
  | .ram => (s.byteAt a, s)
  | .rom => (s.byteAt a, s)
  | .absent => s.absentByte
  | .device => (s.answer.1, s.answer.2.record (.deviceRead a s.answer.1))

/-- `MemWrite(a, 1, v)` (20_memory.md R51, R52): RAM is updated, ROM and absent addresses ignore it, a device receives
it. -/
def State.memWrite (a : Word) (v : Byte) (s : State) : State :=
  match s.kindAt a with
  | .ram => { s with mem := s.mem.write a.toNat v }
  | .rom => s
  | .absent => s
  | .device => s.record (.deviceWrite a v)

/-- `IORead(port)` (20_memory.md R58). -/
def State.ioRead (port : Byte) (s : State) : Byte × State :=
  (s.answer.1, s.answer.2.record (.portRead port s.answer.1))

/-- `IOWrite(port, v)` (20_memory.md R58). -/
def State.ioWrite (port v : Byte) (s : State) : State := s.record (.portWrite port v)

/-- `MemRead(a, 2)`: low byte at `a`, then high byte at `a + 1` (20_memory.md R55). -/
def State.memRead16 (a : Word) (s : State) : Word × State :=
  let lo := s.memRead a
  let hi := lo.2.memRead (a + 1)
  (joinBytes hi.1 lo.1, hi.2)

/-- `MemWrite(a, 2, v)`: low byte at `a`, then high byte at `a + 1` (20_memory.md R55). -/
def State.memWrite16 (a v : Word) (s : State) : State :=
  (s.memWrite a (lowByte v)).memWrite (a + 1) (highByte v)

/-! ## PC, SP and the stack -/

/-- `PC <- v`. -/
def State.setPc (v : Word) (s : State) : State := { s with pc := v }

/-- `SP <- v`. -/
def State.setSp (v : Word) (s : State) : State := { s with sp := v }

/-- `MemWrite(SP-1, 1, hi); MemWrite(SP-2, 1, lo); SP <- SP-2` (43 R230). -/
def State.pushBytes (hi lo : Byte) (s : State) : State :=
  ((s.memWrite (s.sp - 1) hi).memWrite (s.sp - 2) lo).setSp (s.sp - 2)

/-- `Push16(v)` (43 R230). -/
def State.push16 (v : Word) (s : State) : State := s.pushBytes (highByte v) (lowByte v)

/-- `Pop16()` (43 R230): low byte from SP, high byte from SP+1, SP <- SP+2. -/
def State.pop16 (s : State) : Word × State :=
  let v := s.memRead16 s.sp
  (v.1, v.2.setSp (s.sp + 2))

/-! ## Calls and returns -/

/-- `Push16(PC); PC <- target`: what CALL, RST and every interrupt entry do (42 R201, R219; 60 R257). -/
def State.callTo (target : Word) (s : State) : State := (s.push16 s.pc).setPc target

/-- `PC <- Pop16()`: RET, and so the return from an interrupt handler (42 R210; 60 R261). -/
def State.returnFrom (s : State) : State :=
  let r := s.pop16
  r.2.setPc r.1

/-! ## Interrupts -/

/-- The interrupt sources with a fixed vector (60 R251). -/
inductive Vectored where
  | trap
  | rst75
  | rst65
  | rst55
deriving DecidableEq, Repr

/-- The five interrupt sources (60 R251). -/
inductive Source where
  | vectored (v : Vectored)
  | intr
deriving DecidableEq, Repr

/-- The address entry goes to (60 R251; 20_memory.md R60). -/
def Vectored.vector : Vectored → Word
  | .trap => 0x0024
  | .rst75 => 0x003C
  | .rst65 => 0x0034
  | .rst55 => 0x002C

/-- Takes the environment's sample for this step (60 R252); when none is queued the levels stay (log 4). -/
def State.takeSample (s : State) : State :=
  match s.env.samples with
  | [] => s
  | l :: rest => { s with env := { s.env with lines := l, samples := rest } }

/-- Latches the rising edges of RST 7.5 and TRAP and remembers the levels (60 R253). -/
def State.latchEdges (s : State) : State :=
  { s with
    i75 := s.i75 || (s.env.lines.r75 && !s.prev75)
    trapLatch := s.trapLatch || (s.env.lines.trap && !s.prevTrap)
    prev75 := s.env.lines.r75
    prevTrap := s.env.lines.trap }

/-- The maskable sources may be accepted: IE = 1 and EI_PENDING = 0 (60 R255). -/
def State.maskableOpen (s : State) : Bool := s.ie && !s.eiPending

/-- The source is eligible at this boundary (60 R255). -/
def State.eligible (s : State) : Source → Bool
  | .vectored .trap => s.trapLatch && s.env.lines.trap
  | .vectored .rst75 => s.i75 && !s.m75 && s.maskableOpen
  | .vectored .rst65 => s.env.lines.r65 && !s.m65 && s.maskableOpen
  | .vectored .rst55 => s.env.lines.r55 && !s.m55 && s.maskableOpen
  | .intr => s.env.lines.intr && s.maskableOpen

/-- The sources, highest priority first (60 R256). -/
def sourcesByPriority : List Source :=
  [.vectored .trap, .vectored .rst75, .vectored .rst65, .vectored .rst55, .intr]

/-- The source accepted at this boundary: the eligible one of highest priority (60 R255, R256). -/
def State.accepted (s : State) : Option Source := sourcesByPriority.find? s.eligible

/-- What every entry clears: IE, EI_PENDING and HALTED (60 R257, R258, R259). -/
def State.clearForEntry (s : State) : State := { s with ie := false, eiPending := false, halted := false }

/-- What entry does to the source's own request (60 R257): TRAP keeps IE in IE_AT_TRAP (any bit when EI_PENDING = 1:
R259, 93 U6 (c), log 8) and clears its latch; RST 7.5 clears its flip-flop; RST 6.5 and RST 5.5 hold none. -/
def State.answerRequest : Vectored → State → State
  | .trap, s =>
    let saved := if s.eiPending then s.anyBit else (s.ie, s)
    { saved.2 with ieAtTrap := saved.1, ieAtTrapValid := true, trapLatch := false }
  | .rst75, s => { s with i75 := false }
  | .rst65, s => s
  | .rst55, s => s

/-- TAKING AN INTERRUPT with a fixed vector (60 R257): only PC is saved, on the stack. -/
def State.takeInterrupt (v : Vectored) (s : State) : State :=
  ((s.answerRequest v).clearForEntry).callTo v.vector

/-- The bytes the interrupting device supplies at this acknowledge: the next of the queue, or a free value when it is
empty (60 R258, log 11). -/
def State.intaReply (s : State) : IntaReply × State :=
  match s.env.inta with
  | r :: rest => (r, { s with env := { s.env with inta := rest } })
  | [] => (Config.intaBytes s.env.draws, { s with env := { s.env with draws := s.env.draws + 1 } })

/-! ## Reset -/

/-- The reset event (70 R280): what it does not name keeps what it held. -/
def State.resetEvent (s : State) : State :=
  { s with
    pc := 0x0000
    ie := false
    m75 := true
    m65 := true
    m55 := true
    i75 := false
    trapLatch := false
    sod := false
    halted := false
    eiPending := false
    ieAtTrapValid := false
    prev75 := false
    prevTrap := false }

end Sys2Proof.Machine
end

