-- ==== Sys2Proof/Machine/Operands.lean ====
section
/-! DEFINITION. Operand forms: registers, pairs, the M operand, conditions, the RIM and SIM images
(spec/10_state.md R21, R22, R36, R37; 41_arithmetic_logical.md R140; 42_branch_control.md R190). -/

namespace Sys2Proof.Machine

/-- A register operand; code 110 is no register (10_state.md R21). -/
inductive Reg where
  | b
  | c
  | d
  | e
  | h
  | l
  | a
deriving DecidableEq, Repr

/-- The 3-bit code of a register in byte 1 (10_state.md R21). -/
def Reg.code : Reg → BitVec 3
  | .b => 0
  | .c => 1
  | .d => 2
  | .e => 3
  | .h => 4
  | .l => 5
  | .a => 7

/-- `x[c]` (00_scope.md R8). -/
def Regs.get (r : Regs) : Reg → Byte
  | .b => r.b
  | .c => r.c
  | .d => r.d
  | .e => r.e
  | .h => r.h
  | .l => r.l
  | .a => r.a

/-- `x[c] <- v`. -/
def Regs.set (r : Regs) (q : Reg) (v : Byte) : Regs :=
  match q with
  | .b => { r with b := v }
  | .c => { r with c := v }
  | .d => { r with d := v }
  | .e => { r with e := v }
  | .h => { r with h := v }
  | .l => { r with l := v }
  | .a => { r with a := v }

/-- The value of a register. -/
def State.reg (q : Reg) (s : State) : Byte := s.regs.get q

/-- Writes a register. -/
def State.setReg (q : Reg) (v : Byte) (s : State) : State := { s with regs := s.regs.set q v }

/-- A pair operand of LXI, INX, DCX and DAD (10_state.md R22). -/
inductive Pair where
  | b
  | d
  | h
  | sp
deriving DecidableEq, Repr

/-- The 2-bit code of a pair in byte 1 (10_state.md R22). -/
def Pair.code : Pair → BitVec 2
  | .b => 0
  | .d => 1
  | .h => 2
  | .sp => 3

/-- `BC`, the value B ++ C (10_state.md R22). -/
def Regs.bc (r : Regs) : Word := joinBytes r.b r.c

/-- `DE`, the value D ++ E (10_state.md R22). -/
def Regs.de (r : Regs) : Word := joinBytes r.d r.e

/-- `HL`, the value H ++ L (10_state.md R22). -/
def Regs.hl (r : Regs) : Word := joinBytes r.h r.l

/-- `HL`, the address of the M operand. -/
def State.hl (s : State) : Word := s.regs.hl

/-- `rp[p]` (00_scope.md R8). -/
def State.pair (p : Pair) (s : State) : Word :=
  match p with
  | .b => s.regs.bc
  | .d => s.regs.de
  | .h => s.regs.hl
  | .sp => s.sp

/-- `rp[p] <- v`: the left register gets the high byte, the right one the low byte (10_state.md R22). -/
def State.setPair (p : Pair) (v : Word) (s : State) : State :=
  match p with
  | .b => { s with regs := { s.regs with b := highByte v, c := lowByte v } }
  | .d => { s with regs := { s.regs with d := highByte v, e := lowByte v } }
  | .h => { s with regs := { s.regs with h := highByte v, l := lowByte v } }
  | .sp => { s with sp := v }

/-- An 8-bit source operand: a register, or M, the byte at HL (41 R140). -/
inductive Opnd where
  | reg (r : Reg)
  | m
deriving DecidableEq, Repr

/-- The 3-bit code `sss` of a source operand; M is 110 (10_state.md R21). -/
def Opnd.code : Opnd → BitVec 3
  | .reg r => r.code
  | .m => 6

/-- `Opnd8(sss)` (41 R140): the value, and the state after the one read that M makes. -/
def State.opnd8 (o : Opnd) (s : State) : Byte × State :=
  match o with
  | .reg r => (s.reg r, s)
  | .m => s.memRead s.hl

/-- A flag condition (42 R190). -/
inductive Cond where
  | nz
  | z
  | nc
  | c
  | po
  | pe
  | p
  | m
deriving DecidableEq, Repr

/-- The 3-bit code `ccc` of a condition (42 R190). -/
def Cond.code : Cond → BitVec 3
  | .nz => 0
  | .z => 1
  | .nc => 2
  | .c => 3
  | .po => 4
  | .pe => 5
  | .p => 6
  | .m => 7

/-- `cond(ccc)` (42 R190). -/
def Flags.holds (f : Flags) : Cond → Bool
  | .nz => !f.z
  | .z => f.z
  | .nc => !f.cy
  | .c => f.cy
  | .po => !f.p
  | .pe => f.p
  | .p => !f.s
  | .m => f.s

/-- The condition with a code (42 R190). -/
def Cond.ofCode (k : Nat) : Cond :=
  match k with
  | 0 => .nz
  | 1 => .z
  | 2 => .nc
  | 3 => .c
  | 4 => .po
  | 5 => .pe
  | 6 => .p
  | _ => .m

/-- The condition that byte 1 makes a jump or a call depend on: `11 ccc 010` and `11 ccc 100` (30_encoding.md R88). -/
def branchCondition? (op : Byte) : Option Cond :=
  let low := op.toNat % 8
  if op.toNat / 64 = 3 ∧ (low = 2 ∨ low = 4) then some (Cond.ofCode (op.toNat / 8 % 8)) else none

/-- Byte 1 is a conditional jump or call whose condition does not hold. -/
def notTaken (op : Byte) (f : Flags) : Bool :=
  match branchCondition? op with
  | some cond => !f.holds cond
  | none => false

/-- A byte from its bits, bit 7 first (00_scope.md R7). -/
def byteOfBits (b7 b6 b5 b4 b3 b2 b1 b0 : Bool) : Byte :=
  BitVec.ofBool b7 ++ BitVec.ofBool b6 ++ BitVec.ofBool b5 ++ BitVec.ofBool b4 ++
    BitVec.ofBool b3 ++ BitVec.ofBool b2 ++ BitVec.ofBool b1 ++ BitVec.ofBool b0

/-- The flag byte `S Z u5 AC u3 P u1 CY` with the three undefined bits as given (10_state.md R25, R29). -/
def Flags.toByte (f : Flags) (u5 u3 u1 : Bool) : Byte := byteOfBits f.s f.z u5 f.ac u3 f.p u1 f.cy

/-- The flags in a flag byte; bits 5, 3 and 1 are ignored (43 R234). -/
def Flags.ofByte (v : Byte) : Flags :=
  { s := v.getLsbD 7, z := v.getLsbD 6, ac := v.getLsbD 4, p := v.getLsbD 2, cy := v.getLsbD 0 }

/-- The RIM image with the interrupt enable bit as given (10_state.md R36; 43 R244). -/
def State.rimImage (ieBit : Bool) (s : State) : Byte :=
  byteOfBits s.env.lines.sid s.i75 s.env.lines.r65 s.env.lines.r55 ieBit s.m75 s.m65 s.m55

end Sys2Proof.Machine
end

