-- ==== Sys2Proof/Machine/Flags.lean ====
section
/-! DEFINITION. The flag computations (spec/10_state.md R26; 41_arithmetic_logical.md R141 to R143, R149, R152, R155,
R163 to R165). A byte result comes with the flags that its class writes; AC and CY are worked out on natural numbers as
the rules write them. -/

namespace Sys2Proof.Machine

/-- `parity_even(v)`: the number of 1 bits is even (00_scope.md R9, 41 R141). -/
def parityEven (v : Byte) : Bool :=
  ((v.getLsbD 0).toNat + (v.getLsbD 1).toNat + (v.getLsbD 2).toNat + (v.getLsbD 3).toNat +
    (v.getLsbD 4).toNat + (v.getLsbD 5).toNat + (v.getLsbD 6).toNat + (v.getLsbD 7).toNat) % 2 == 0

/-- The flags after `SetZSP(res)` with AC and CY as given (41 R141). -/
def Flags.ofResult (res : Byte) (ac cy : Bool) : Flags :=
  { s := res.getLsbD 7, z := res == 0, ac := ac, p := parityEven res, cy := cy }

/-- `Add8(a, b, cin)`: the result and all five flags (41 R142). -/
def add8 (a b : Byte) (cin : Bool) : Byte × Flags :=
  let t := a.toNat + b.toNat + cin.toNat
  let res := BitVec.ofNat 8 t
  (res, Flags.ofResult res (decide (16 ≤ a.toNat % 16 + b.toNat % 16 + cin.toNat)) (decide (256 ≤ t)))

/-- `Sub8(a, b, bin)`: the result and all five flags (41 R143). -/
def sub8 (a b : Byte) (bin : Bool) : Byte × Flags :=
  let d : Int := (a.toNat : Int) - b.toNat - bin.toNat
  let res := BitVec.ofInt 8 d
  (res, Flags.ofResult res (decide (b.toNat % 16 + bin.toNat ≤ a.toNat % 16)) (decide (d < 0)))

/-- The increment of INR: CY is kept (41 R149, R150). -/
def inc8 (v : Byte) (f : Flags) : Byte × Flags :=
  (v + 1, Flags.ofResult (v + 1) (decide (v.toNat % 16 = 15)) f.cy)

/-- The decrement of DCR: CY is kept (41 R152, R153). -/
def dec8 (v : Byte) (f : Flags) : Byte × Flags :=
  (v - 1, Flags.ofResult (v - 1) (decide (v.toNat % 16 ≠ 0)) f.cy)

/-- AND: CY <- 0, AC <- 1 (41 R163, R171). -/
def and8 (a b : Byte) : Byte × Flags := (a &&& b, Flags.ofResult (a &&& b) true false)

/-- Exclusive OR: CY <- 0, AC <- 0 (41 R164, R172). -/
def xor8 (a b : Byte) : Byte × Flags := (a ^^^ b, Flags.ofResult (a ^^^ b) false false)

/-- OR: CY <- 0, AC <- 0 (41 R165, R173). -/
def or8 (a b : Byte) : Byte × Flags := (a ||| b, Flags.ofResult (a ||| b) false false)

/-- The decimal adjustment of DAA: the result and all five flags (41 R155). -/
def daa8 (a : Byte) (f : Flags) : Byte × Flags :=
  let lo := a.toNat % 16
  let hi := a.toNat / 16
  let low := decide (9 < lo) || f.ac
  let high := decide (9 < hi) || f.cy || (decide (9 ≤ hi) && decide (9 < lo))
  let adj : Byte := (if low then 0x06 else 0x00) + (if high then 0x60 else 0x00)
  let r := add8 a adj false
  (r.1, { r.2 with cy := f.cy || high })

/-- Rotate left: bit 7 goes to bit 0 and to CY (41 R159). -/
def rotLeft (a : Byte) : Byte × Bool := (a.extractLsb' 0 7 ++ a.extractLsb' 7 1, a.getLsbD 7)

/-- Rotate right: bit 0 goes to bit 7 and to CY (41 R160). -/
def rotRight (a : Byte) : Byte × Bool := (a.extractLsb' 0 1 ++ a.extractLsb' 1 7, a.getLsbD 0)

/-- Rotate left through carry (41 R161). -/
def rotLeftCarry (a : Byte) (cy : Bool) : Byte × Bool := (a.extractLsb' 0 7 ++ BitVec.ofBool cy, a.getLsbD 7)

/-- Rotate right through carry (41 R162). -/
def rotRightCarry (a : Byte) (cy : Bool) : Byte × Bool := (BitVec.ofBool cy ++ a.extractLsb' 1 7, a.getLsbD 0)

end Sys2Proof.Machine
end

