-- ==== Sys2Proof/Machine/Arith.lean ====
section
/-! DEFINITION. The arithmetic part of the arithmetic and logical group (spec/41_arithmetic_logical.md R144 to R162 and
R167 to R170): add, subtract, increment, decrement, double add, the specials and the rotates. -/

namespace Sys2Proof.Machine

/-- `A <- r.1` and all five flags as `r.2` gives them. -/
def State.setResult (r : Byte × Flags) (s : State) : State := { s.setReg .a r.1 with flags := r.2 }

/-- `A <- Add8(A, v, cin)` (R142). -/
def State.addToA (v : Byte) (cin : Bool) (s : State) : State := s.setResult (add8 s.regs.a v cin)

/-- `A <- Sub8(A, v, bin)` (R143). -/
def State.subFromA (v : Byte) (bin : Bool) (s : State) : State := s.setResult (sub8 s.regs.a v bin)

/-- ADD and ADC (R144, R145): the operand is read, then added to A. -/
def addOpnd (o : Opnd) (cin : Bool) (s : State) : Result :=
  let v := s.opnd8 o
  .next (v.2.addToA v.1 cin)

/-- SUB and SBB (R146, R147). -/
def subOpnd (o : Opnd) (bin : Bool) (s : State) : Result :=
  let v := s.opnd8 o
  .next (v.2.subFromA v.1 bin)

/-- INR r (R149). -/
def incReg (q : Reg) (s : State) : Result :=
  let r := inc8 (s.reg q) s.flags
  .next { s.setReg q r.1 with flags := r.2 }

/-- DCR r (R152). -/
def decReg (q : Reg) (s : State) : Result :=
  let r := dec8 (s.reg q) s.flags
  .next { s.setReg q r.1 with flags := r.2 }

/-- INR M (R150): one read, then one write, of the byte at HL. -/
def incMem (s : State) : Result :=
  let v := s.memRead s.hl
  let r := inc8 v.1 s.flags
  .next { v.2.memWrite s.hl r.1 with flags := r.2 }

/-- DCR M (R153): one read, then one write, of the byte at HL. -/
def decMem (s : State) : Result :=
  let v := s.memRead s.hl
  let r := dec8 v.1 s.flags
  .next { v.2.memWrite s.hl r.1 with flags := r.2 }

/-- `rp[pp] <- rp[pp] + 1` (R151). -/
def incPair (p : Pair) (s : State) : Result := .next (s.setPair p (s.pair p + 1))

/-- `rp[pp] <- rp[pp] - 1` (R154). -/
def decPair (p : Pair) (s : State) : Result := .next (s.setPair p (s.pair p - 1))

/-- `CY <- v`; the other flags are kept. -/
def State.setCarry (v : Bool) (s : State) : State := { s with flags := { s.flags with cy := v } }

/-- `HL <- HL + rp[pp]`, CY the carry out of bit 15 (R148). -/
def addPair (p : Pair) (s : State) : Result :=
  let t := s.hl.toNat + (s.pair p).toNat
  .next ((s.setPair .h (BitVec.ofNat 16 t)).setCarry (decide (65536 ≤ t)))

/-- DAA (R155). -/
def decimalAdjust (s : State) : Result := .next (s.setResult (daa8 s.regs.a s.flags))

/-- CMA (R156). -/
def complementA (s : State) : Result := .next (s.setReg .a (s.regs.a ^^^ 0xFF))

/-- A rotate: A and CY as given (R159 to R162). -/
def rotateA (r : Byte × Bool) (s : State) : Result := .next ((s.setReg .a r.1).setCarry r.2)

/-- 03 INX B (R151). -/
def execInxB (s : State) : Result := incPair .b s

/-- 04 INR B (R149). -/
def execInrB (s : State) : Result := incReg .b s

/-- 05 DCR B (R152). -/
def execDcrB (s : State) : Result := decReg .b s

/-- 07 RLC (R159). -/
def execRlc (s : State) : Result := rotateA (rotLeft s.regs.a) s

/-- 09 DAD B (R148). -/
def execDadB (s : State) : Result := addPair .b s

/-- 0B DCX B (R154). -/
def execDcxB (s : State) : Result := decPair .b s

/-- 0C INR C (R149). -/
def execInrC (s : State) : Result := incReg .c s

/-- 0D DCR C (R152). -/
def execDcrC (s : State) : Result := decReg .c s

/-- 0F RRC (R160). -/
def execRrc (s : State) : Result := rotateA (rotRight s.regs.a) s

/-- 13 INX D (R151). -/
def execInxD (s : State) : Result := incPair .d s

/-- 14 INR D (R149). -/
def execInrD (s : State) : Result := incReg .d s

/-- 15 DCR D (R152). -/
def execDcrD (s : State) : Result := decReg .d s

/-- 17 RAL (R161). -/
def execRal (s : State) : Result := rotateA (rotLeftCarry s.regs.a s.flags.cy) s

/-- 19 DAD D (R148). -/
def execDadD (s : State) : Result := addPair .d s

/-- 1B DCX D (R154). -/
def execDcxD (s : State) : Result := decPair .d s

/-- 1C INR E (R149). -/
def execInrE (s : State) : Result := incReg .e s

/-- 1D DCR E (R152). -/
def execDcrE (s : State) : Result := decReg .e s

/-- 1F RAR (R162). -/
def execRar (s : State) : Result := rotateA (rotRightCarry s.regs.a s.flags.cy) s

/-- 23 INX H (R151). -/
def execInxH (s : State) : Result := incPair .h s

/-- 24 INR H (R149). -/
def execInrH (s : State) : Result := incReg .h s

/-- 25 DCR H (R152). -/
def execDcrH (s : State) : Result := decReg .h s

/-- 27 DAA (R155). -/
def execDaa (s : State) : Result := decimalAdjust s

/-- 29 DAD H (R148). -/
def execDadH (s : State) : Result := addPair .h s

/-- 2B DCX H (R154). -/
def execDcxH (s : State) : Result := decPair .h s

/-- 2C INR L (R149). -/
def execInrL (s : State) : Result := incReg .l s

/-- 2D DCR L (R152). -/
def execDcrL (s : State) : Result := decReg .l s

/-- 2F CMA (R156). -/
def execCma (s : State) : Result := complementA s

/-- 33 INX SP (R151). -/
def execInxSP (s : State) : Result := incPair .sp s

/-- 34 INR M (R150). -/
def execInrM (s : State) : Result := incMem s

/-- 35 DCR M (R153). -/
def execDcrM (s : State) : Result := decMem s

/-- 37 STC (R157). -/
def execStc (s : State) : Result := .next (s.setCarry true)

/-- 39 DAD SP (R148). -/
def execDadSP (s : State) : Result := addPair .sp s

/-- 3B DCX SP (R154). -/
def execDcxSP (s : State) : Result := decPair .sp s

/-- 3C INR A (R149). -/
def execInrA (s : State) : Result := incReg .a s

/-- 3D DCR A (R152). -/
def execDcrA (s : State) : Result := decReg .a s

/-- 3F CMC (R158). -/
def execCmc (s : State) : Result := .next (s.setCarry (!s.flags.cy))

/-- 80 ADD B (R144). -/
def execAddB (s : State) : Result := addOpnd (.reg .b) false s

/-- 81 ADD C (R144). -/
def execAddC (s : State) : Result := addOpnd (.reg .c) false s

/-- 82 ADD D (R144). -/
def execAddD (s : State) : Result := addOpnd (.reg .d) false s

/-- 83 ADD E (R144). -/
def execAddE (s : State) : Result := addOpnd (.reg .e) false s

/-- 84 ADD H (R144). -/
def execAddH (s : State) : Result := addOpnd (.reg .h) false s

/-- 85 ADD L (R144). -/
def execAddL (s : State) : Result := addOpnd (.reg .l) false s

/-- 86 ADD M (R144). -/
def execAddM (s : State) : Result := addOpnd .m false s

/-- 87 ADD A (R144). -/
def execAddA (s : State) : Result := addOpnd (.reg .a) false s

/-- 88 ADC B (R145). -/
def execAdcB (s : State) : Result := addOpnd (.reg .b) s.flags.cy s

/-- 89 ADC C (R145). -/
def execAdcC (s : State) : Result := addOpnd (.reg .c) s.flags.cy s

/-- 8A ADC D (R145). -/
def execAdcD (s : State) : Result := addOpnd (.reg .d) s.flags.cy s

/-- 8B ADC E (R145). -/
def execAdcE (s : State) : Result := addOpnd (.reg .e) s.flags.cy s

/-- 8C ADC H (R145). -/
def execAdcH (s : State) : Result := addOpnd (.reg .h) s.flags.cy s

/-- 8D ADC L (R145). -/
def execAdcL (s : State) : Result := addOpnd (.reg .l) s.flags.cy s

/-- 8E ADC M (R145). -/
def execAdcM (s : State) : Result := addOpnd .m s.flags.cy s

/-- 8F ADC A (R145). -/
def execAdcA (s : State) : Result := addOpnd (.reg .a) s.flags.cy s

/-- 90 SUB B (R146). -/
def execSubB (s : State) : Result := subOpnd (.reg .b) false s

/-- 91 SUB C (R146). -/
def execSubC (s : State) : Result := subOpnd (.reg .c) false s

/-- 92 SUB D (R146). -/
def execSubD (s : State) : Result := subOpnd (.reg .d) false s

/-- 93 SUB E (R146). -/
def execSubE (s : State) : Result := subOpnd (.reg .e) false s

/-- 94 SUB H (R146). -/
def execSubH (s : State) : Result := subOpnd (.reg .h) false s

/-- 95 SUB L (R146). -/
def execSubL (s : State) : Result := subOpnd (.reg .l) false s

/-- 96 SUB M (R146). -/
def execSubM (s : State) : Result := subOpnd .m false s

/-- 97 SUB A (R146). -/
def execSubA (s : State) : Result := subOpnd (.reg .a) false s

/-- 98 SBB B (R147). -/
def execSbbB (s : State) : Result := subOpnd (.reg .b) s.flags.cy s

/-- 99 SBB C (R147). -/
def execSbbC (s : State) : Result := subOpnd (.reg .c) s.flags.cy s

/-- 9A SBB D (R147). -/
def execSbbD (s : State) : Result := subOpnd (.reg .d) s.flags.cy s

/-- 9B SBB E (R147). -/
def execSbbE (s : State) : Result := subOpnd (.reg .e) s.flags.cy s

/-- 9C SBB H (R147). -/
def execSbbH (s : State) : Result := subOpnd (.reg .h) s.flags.cy s

/-- 9D SBB L (R147). -/
def execSbbL (s : State) : Result := subOpnd (.reg .l) s.flags.cy s

/-- 9E SBB M (R147). -/
def execSbbM (s : State) : Result := subOpnd .m s.flags.cy s

/-- 9F SBB A (R147). -/
def execSbbA (s : State) : Result := subOpnd (.reg .a) s.flags.cy s

/-- C6 ADI byte (R167). -/
def execAdi (byte : Byte) (s : State) : Result := .next (s.addToA byte false)

/-- CE ACI byte (R168). -/
def execAci (byte : Byte) (s : State) : Result := .next (s.addToA byte s.flags.cy)

/-- D6 SUI byte (R169). -/
def execSui (byte : Byte) (s : State) : Result := .next (s.subFromA byte false)

/-- DE SBI byte (R170). -/
def execSbi (byte : Byte) (s : State) : Result := .next (s.subFromA byte s.flags.cy)

end Sys2Proof.Machine
end

