-- ==== Sys2Proof/Machine/Branch.lean ====
section
/-! DEFINITION. The branch control group (spec/42_branch_control.md R190 to R220). PC already stands past the whole
instruction (00_scope.md R10), so a call pushes the address of the instruction after it. No instruction here writes a
flag. -/

namespace Sys2Proof.Machine

/-- A conditional jump (R192 to R199). -/
def jumpIf (k : Cond) (adr : Word) (s : State) : Result := .next (if s.flags.holds k then s.setPc adr else s)

/-- A conditional call (R202 to R209). -/
def callIf (k : Cond) (adr : Word) (s : State) : Result := .next (if s.flags.holds k then s.callTo adr else s)

/-- A conditional return (R211 to R218). -/
def returnIf (k : Cond) (s : State) : Result := .next (if s.flags.holds k then s.returnFrom else s)

/-- `Push16(PC); PC <- 8 * n` (R219). -/
def restart (n : BitVec 3) (s : State) : Result := .next (s.callTo (BitVec.ofNat 16 (8 * n.toNat)))

/-- C0 RNZ (R211). -/
def execRnz (s : State) : Result := returnIf .nz s

/-- C2 JNZ adr (R192). -/
def execJnz (adr : Word) (s : State) : Result := jumpIf .nz adr s

/-- C3 JMP adr (R191). -/
def execJmp (adr : Word) (s : State) : Result := .next (s.setPc adr)

/-- C4 CNZ adr (R202). -/
def execCnz (adr : Word) (s : State) : Result := callIf .nz adr s

/-- C7 RST 0 (R219). -/
def execRst0 (s : State) : Result := restart 0 s

/-- C8 RZ (R212). -/
def execRz (s : State) : Result := returnIf .z s

/-- C9 RET (R210). -/
def execRet (s : State) : Result := .next s.returnFrom

/-- CA JZ adr (R193). -/
def execJz (adr : Word) (s : State) : Result := jumpIf .z adr s

/-- CC CZ adr (R203). -/
def execCz (adr : Word) (s : State) : Result := callIf .z adr s

/-- CD CALL adr (R201). -/
def execCall (adr : Word) (s : State) : Result := .next (s.callTo adr)

/-- CF RST 1 (R219). -/
def execRst1 (s : State) : Result := restart 1 s

/-- D0 RNC (R213). -/
def execRnc (s : State) : Result := returnIf .nc s

/-- D2 JNC adr (R194). -/
def execJnc (adr : Word) (s : State) : Result := jumpIf .nc adr s

/-- D4 CNC adr (R204). -/
def execCnc (adr : Word) (s : State) : Result := callIf .nc adr s

/-- D7 RST 2 (R219). -/
def execRst2 (s : State) : Result := restart 2 s

/-- D8 RC (R214). -/
def execRc (s : State) : Result := returnIf .c s

/-- DA JC adr (R195). -/
def execJc (adr : Word) (s : State) : Result := jumpIf .c adr s

/-- DC CC adr (R205). -/
def execCc (adr : Word) (s : State) : Result := callIf .c adr s

/-- DF RST 3 (R219). -/
def execRst3 (s : State) : Result := restart 3 s

/-- E0 RPO (R215). -/
def execRpo (s : State) : Result := returnIf .po s

/-- E2 JPO adr (R196). -/
def execJpo (adr : Word) (s : State) : Result := jumpIf .po adr s

/-- E4 CPO adr (R206). -/
def execCpo (adr : Word) (s : State) : Result := callIf .po adr s

/-- E7 RST 4 (R219). -/
def execRst4 (s : State) : Result := restart 4 s

/-- E8 RPE (R216). -/
def execRpe (s : State) : Result := returnIf .pe s

/-- E9 PCHL (R200). -/
def execPchl (s : State) : Result := .next (s.setPc s.hl)

/-- EA JPE adr (R197). -/
def execJpe (adr : Word) (s : State) : Result := jumpIf .pe adr s

/-- EC CPE adr (R207). -/
def execCpe (adr : Word) (s : State) : Result := callIf .pe adr s

/-- EF RST 5 (R219). -/
def execRst5 (s : State) : Result := restart 5 s

/-- F0 RP (R217). -/
def execRp (s : State) : Result := returnIf .p s

/-- F2 JP adr (R198). -/
def execJp (adr : Word) (s : State) : Result := jumpIf .p adr s

/-- F4 CP adr (R208). -/
def execCp (adr : Word) (s : State) : Result := callIf .p adr s

/-- F7 RST 6 (R219). -/
def execRst6 (s : State) : Result := restart 6 s

/-- F8 RM (R218). -/
def execRm (s : State) : Result := returnIf .m s

/-- FA JM adr (R199). -/
def execJm (adr : Word) (s : State) : Result := jumpIf .m adr s

/-- FC CM adr (R209). -/
def execCm (adr : Word) (s : State) : Result := callIf .m adr s

/-- FF RST 7 (R219). -/
def execRst7 (s : State) : Result := restart 7 s

end Sys2Proof.Machine
end

