-- ==== Sys2Proof/Machine/Control.lean ====
section
/-! DEFINITION. Input and output, interrupt control, NOP, HLT, RIM and SIM (spec/43_stack_io_machine_control.md R237 to
R245), and the ten undefined values of byte 1 (30_encoding.md R90). The EI delay itself is the bookkeeping of the step
(R241, Machine/Cycle.lean). -/

namespace Sys2Proof.Machine

/-- `A <- IORead(port)` (R237). -/
def inputPort (port : Byte) (s : State) : Result :=
  let v := s.ioRead port
  .next (v.2.setReg .a v.1)

/-- `IE <- 0; EI_PENDING <- 0` (R239). -/
def disableInterrupts (s : State) : Result := .next { s with ie := false, eiPending := false }

/-- `EI_PENDING <- 1` (R240). -/
def enableInterrupts (s : State) : Result := .next { s with eiPending := true }

/-- `HALTED <- 1` (R243). -/
def halt (s : State) : Result := .next { s with halted := true }

/-- RIM (R244): bit 3 is IE_AT_TRAP in the first RIM after a TRAP entry and IE otherwise; right after EI it is any bit
(93 U6 (b), log 7). Only IE_AT_TRAP_VALID changes beside A. -/
def readMasks (s : State) : Result :=
  let ie := if s.ieAtTrapValid then s.ieAtTrap else s.ie
  let bit := if s.eiPending then s.anyBit else (ie, s)
  .next ({ bit.2 with ieAtTrapValid := false }.setReg .a (s.rimImage bit.1))

/-- SIM (R245): the masks when A[3] = 1, RESET RST 7.5 when A[4] = 1, SOD when A[6] = 1; A[5] is ignored. -/
def setMasks (s : State) : Result :=
  let a := s.regs.a
  let mse := a.getLsbD 3
  .next { s with
    m75 := if mse then a.getLsbD 2 else s.m75
    m65 := if mse then a.getLsbD 1 else s.m65
    m55 := if mse then a.getLsbD 0 else s.m55
    i75 := if a.getLsbD 4 then false else s.i75
    sod := if a.getLsbD 6 then a.getLsbD 7 else s.sod }

/-- 00 NOP (R242). -/
def execNop (s : State) : Result := .next s

/-- 08 UNDEFINED (R90). -/
def execUndef08 (_s : State) : Result := .refused (.undefinedOpcode 0x08)

/-- 10 UNDEFINED (R90). -/
def execUndef10 (_s : State) : Result := .refused (.undefinedOpcode 0x10)

/-- 18 UNDEFINED (R90). -/
def execUndef18 (_s : State) : Result := .refused (.undefinedOpcode 0x18)

/-- 20 RIM (R244). -/
def execRim (s : State) : Result := readMasks s

/-- 28 UNDEFINED (R90). -/
def execUndef28 (_s : State) : Result := .refused (.undefinedOpcode 0x28)

/-- 30 SIM (R245). -/
def execSim (s : State) : Result := setMasks s

/-- 38 UNDEFINED (R90). -/
def execUndef38 (_s : State) : Result := .refused (.undefinedOpcode 0x38)

/-- 76 HLT (R243). -/
def execHlt (s : State) : Result := halt s

/-- CB UNDEFINED (R90). -/
def execUndefCB (_s : State) : Result := .refused (.undefinedOpcode 0xCB)

/-- D3 OUT byte (R238). -/
def execOutPort (port : Byte) (s : State) : Result := .next (s.ioWrite port s.regs.a)

/-- D9 UNDEFINED (R90). -/
def execUndefD9 (_s : State) : Result := .refused (.undefinedOpcode 0xD9)

/-- DB IN byte (R237). -/
def execInPort (port : Byte) (s : State) : Result := inputPort port s

/-- DD UNDEFINED (R90). -/
def execUndefDD (_s : State) : Result := .refused (.undefinedOpcode 0xDD)

/-- ED UNDEFINED (R90). -/
def execUndefED (_s : State) : Result := .refused (.undefinedOpcode 0xED)

/-- F3 DI (R239). -/
def execDi (s : State) : Result := disableInterrupts s

/-- FB EI (R240). -/
def execEi (s : State) : Result := enableInterrupts s

/-- FD UNDEFINED (R90). -/
def execUndefFD (_s : State) : Result := .refused (.undefinedOpcode 0xFD)

end Sys2Proof.Machine
end

