-- ==== Sys2Proof/Machine/Logic.lean ====
section
/-! DEFINITION. The logical and compare part of the arithmetic and logical group (spec/41_arithmetic_logical.md R163 to
R166 and R171 to R174). -/

namespace Sys2Proof.Machine

/-- `A <- f(A, v)` with its flags. -/
def State.logicA (f : Byte → Byte → Byte × Flags) (v : Byte) (s : State) : State := s.setResult (f s.regs.a v)

/-- `Sub8(A, v, 0)` with the result discarded: only the flags are written (R166, R174). -/
def State.compareA (v : Byte) (s : State) : State := { s with flags := (sub8 s.regs.a v false).2 }

/-- ANA, XRA and ORA (R163 to R165): the operand is read, then combined with A. -/
def logicOpnd (f : Byte → Byte → Byte × Flags) (o : Opnd) (s : State) : Result :=
  let v := s.opnd8 o
  .next (v.2.logicA f v.1)

/-- CMP (R166). -/
def compareOpnd (o : Opnd) (s : State) : Result :=
  let v := s.opnd8 o
  .next (v.2.compareA v.1)

/-- A0 ANA B (R163). -/
def execAnaB (s : State) : Result := logicOpnd and8 (.reg .b) s

/-- A1 ANA C (R163). -/
def execAnaC (s : State) : Result := logicOpnd and8 (.reg .c) s

/-- A2 ANA D (R163). -/
def execAnaD (s : State) : Result := logicOpnd and8 (.reg .d) s

/-- A3 ANA E (R163). -/
def execAnaE (s : State) : Result := logicOpnd and8 (.reg .e) s

/-- A4 ANA H (R163). -/
def execAnaH (s : State) : Result := logicOpnd and8 (.reg .h) s

/-- A5 ANA L (R163). -/
def execAnaL (s : State) : Result := logicOpnd and8 (.reg .l) s

/-- A6 ANA M (R163). -/
def execAnaM (s : State) : Result := logicOpnd and8 .m s

/-- A7 ANA A (R163). -/
def execAnaA (s : State) : Result := logicOpnd and8 (.reg .a) s

/-- A8 XRA B (R164). -/
def execXraB (s : State) : Result := logicOpnd xor8 (.reg .b) s

/-- A9 XRA C (R164). -/
def execXraC (s : State) : Result := logicOpnd xor8 (.reg .c) s

/-- AA XRA D (R164). -/
def execXraD (s : State) : Result := logicOpnd xor8 (.reg .d) s

/-- AB XRA E (R164). -/
def execXraE (s : State) : Result := logicOpnd xor8 (.reg .e) s

/-- AC XRA H (R164). -/
def execXraH (s : State) : Result := logicOpnd xor8 (.reg .h) s

/-- AD XRA L (R164). -/
def execXraL (s : State) : Result := logicOpnd xor8 (.reg .l) s

/-- AE XRA M (R164). -/
def execXraM (s : State) : Result := logicOpnd xor8 .m s

/-- AF XRA A (R164). -/
def execXraA (s : State) : Result := logicOpnd xor8 (.reg .a) s

/-- B0 ORA B (R165). -/
def execOraB (s : State) : Result := logicOpnd or8 (.reg .b) s

/-- B1 ORA C (R165). -/
def execOraC (s : State) : Result := logicOpnd or8 (.reg .c) s

/-- B2 ORA D (R165). -/
def execOraD (s : State) : Result := logicOpnd or8 (.reg .d) s

/-- B3 ORA E (R165). -/
def execOraE (s : State) : Result := logicOpnd or8 (.reg .e) s

/-- B4 ORA H (R165). -/
def execOraH (s : State) : Result := logicOpnd or8 (.reg .h) s

/-- B5 ORA L (R165). -/
def execOraL (s : State) : Result := logicOpnd or8 (.reg .l) s

/-- B6 ORA M (R165). -/
def execOraM (s : State) : Result := logicOpnd or8 .m s

/-- B7 ORA A (R165). -/
def execOraA (s : State) : Result := logicOpnd or8 (.reg .a) s

/-- B8 CMP B (R166). -/
def execCmpB (s : State) : Result := compareOpnd (.reg .b) s

/-- B9 CMP C (R166). -/
def execCmpC (s : State) : Result := compareOpnd (.reg .c) s

/-- BA CMP D (R166). -/
def execCmpD (s : State) : Result := compareOpnd (.reg .d) s

/-- BB CMP E (R166). -/
def execCmpE (s : State) : Result := compareOpnd (.reg .e) s

/-- BC CMP H (R166). -/
def execCmpH (s : State) : Result := compareOpnd (.reg .h) s

/-- BD CMP L (R166). -/
def execCmpL (s : State) : Result := compareOpnd (.reg .l) s

/-- BE CMP M (R166). -/
def execCmpM (s : State) : Result := compareOpnd .m s

/-- BF CMP A (R166). -/
def execCmpA (s : State) : Result := compareOpnd (.reg .a) s

/-- E6 ANI byte (R171). -/
def execAni (byte : Byte) (s : State) : Result := .next (s.logicA and8 byte)

/-- EE XRI byte (R172). -/
def execXri (byte : Byte) (s : State) : Result := .next (s.logicA xor8 byte)

/-- F6 ORI byte (R173). -/
def execOri (byte : Byte) (s : State) : Result := .next (s.logicA or8 byte)

/-- FE CPI byte (R174). -/
def execCpi (byte : Byte) (s : State) : Result := .next (s.compareA byte)

end Sys2Proof.Machine
end

