-- ==== Sys2Proof/Machine/Stack.lean ====
section
/-! DEFINITION. The stack instructions (spec/43_stack_io_machine_control.md R231 to R236). -/

namespace Sys2Proof.Machine

/-- `rp[pp] <- Pop16()` (R233). -/
def popPair (p : Pair) (s : State) : Result :=
  let v := s.pop16
  .next (v.2.setPair p v.1)

/-- PUSH PSW (R232): A at SP-1, the flag byte at SP-2, its three undefined bits drawn afresh (10_state.md R29, log 6). -/
def pushPsw (s : State) : Result :=
  let u5 := s.anyBit
  let u3 := u5.2.anyBit
  let u1 := u3.2.anyBit
  .next (u1.2.pushBytes s.regs.a (s.flags.toByte u5.1 u3.1 u1.1))

/-- POP PSW (R234): the flags from the byte at SP, A from the byte at SP+1. -/
def popPsw (s : State) : Result :=
  let v := s.pop16
  .next { v.2.setReg .a (highByte v.1) with flags := Flags.ofByte (lowByte v.1) }

/-- XTHL (R235): read SP, read SP+1, write H at SP+1, write L at SP, then load HL. -/
def exchangeTop (s : State) : Result :=
  let v := s.memRead16 s.sp
  .next (((v.2.memWrite (s.sp + 1) s.regs.h).memWrite s.sp s.regs.l).setPair .h v.1)

/-- C1 POP B (R233). -/
def execPopB (s : State) : Result := popPair .b s

/-- C5 PUSH B (R231). -/
def execPushB (s : State) : Result := .next (s.push16 (s.pair .b))

/-- D1 POP D (R233). -/
def execPopD (s : State) : Result := popPair .d s

/-- D5 PUSH D (R231). -/
def execPushD (s : State) : Result := .next (s.push16 (s.pair .d))

/-- E1 POP H (R233). -/
def execPopH (s : State) : Result := popPair .h s

/-- E3 XTHL (R235). -/
def execXthl (s : State) : Result := exchangeTop s

/-- E5 PUSH H (R231). -/
def execPushH (s : State) : Result := .next (s.push16 (s.pair .h))

/-- F1 POP PSW (R234). -/
def execPopPSW (s : State) : Result := popPsw s

/-- F5 PUSH PSW (R232). -/
def execPushPSW (s : State) : Result := pushPsw s

/-- F9 SPHL (R236). -/
def execSphl (s : State) : Result := .next (s.setSp s.hl)

end Sys2Proof.Machine
end

