-- ==== Sys2Proof/Machine/Transfer.lean ====
section
/-! DEFINITION. The data transfer group (spec/40_data_transfer.md R120 to R133). PC already stands past the instruction
(00_scope.md R10). No instruction here writes a flag. -/

namespace Sys2Proof.Machine

/-- `x[ddd] <- x[sss]` (R120). -/
def moveReg (dst src : Reg) (s : State) : Result := .next (s.setReg dst (s.reg src))

/-- `x[ddd] <- MemRead(HL, 1)` (R121): the address is the HL before the write. -/
def moveFromMem (dst : Reg) (s : State) : Result :=
  let v := s.memRead s.hl
  .next (v.2.setReg dst v.1)

/-- `MemWrite(HL, 1, x[sss])` (R122). -/
def moveToMem (src : Reg) (s : State) : Result := .next (s.memWrite s.hl (s.reg src))

/-- `x[ddd] <- byte2` (R123). -/
def moveImm (dst : Reg) (byte : Byte) (s : State) : Result := .next (s.setReg dst byte)

/-- `MemWrite(HL, 1, byte2)` (R124). -/
def moveImmMem (byte : Byte) (s : State) : Result := .next (s.memWrite s.hl byte)

/-- `rp[pp] <- byte3 ++ byte2` (R125). -/
def loadPairImm (p : Pair) (dble : Word) (s : State) : Result := .next (s.setPair p dble)

/-- `A <- MemRead(a, 1)` (R126, R130). -/
def loadA (a : Word) (s : State) : Result :=
  let v := s.memRead a
  .next (v.2.setReg .a v.1)

/-- `MemWrite(a, 1, A)` (R127, R131). -/
def storeA (a : Word) (s : State) : Result := .next (s.memWrite a s.regs.a)

/-- `L <- MemRead(a, 1); H <- MemRead(a + 1, 1)` (R128). -/
def loadHL (a : Word) (s : State) : Result :=
  let v := s.memRead16 a
  .next (v.2.setPair .h v.1)

/-- `MemWrite(a, 1, L); MemWrite(a + 1, 1, H)` (R129). -/
def storeHL (a : Word) (s : State) : Result := .next (s.memWrite16 a s.hl)

/-- `t <- HL; HL <- DE; DE <- t` (R132). -/
def exchangeDEHL (s : State) : Result := .next ((s.setPair .h s.regs.de).setPair .d s.hl)

/-- 01 LXI B,dble (R125). -/
def execLxiB (dble : Word) (s : State) : Result := loadPairImm .b dble s

/-- 02 STAX B (R127). -/
def execStaxB (s : State) : Result := storeA s.regs.bc s

/-- 06 MVI B,byte (R123). -/
def execMviB (byte : Byte) (s : State) : Result := moveImm .b byte s

/-- 0A LDAX B (R126). -/
def execLdaxB (s : State) : Result := loadA s.regs.bc s

/-- 0E MVI C,byte (R123). -/
def execMviC (byte : Byte) (s : State) : Result := moveImm .c byte s

/-- 11 LXI D,dble (R125). -/
def execLxiD (dble : Word) (s : State) : Result := loadPairImm .d dble s

/-- 12 STAX D (R127). -/
def execStaxD (s : State) : Result := storeA s.regs.de s

/-- 16 MVI D,byte (R123). -/
def execMviD (byte : Byte) (s : State) : Result := moveImm .d byte s

/-- 1A LDAX D (R126). -/
def execLdaxD (s : State) : Result := loadA s.regs.de s

/-- 1E MVI E,byte (R123). -/
def execMviE (byte : Byte) (s : State) : Result := moveImm .e byte s

/-- 21 LXI H,dble (R125). -/
def execLxiH (dble : Word) (s : State) : Result := loadPairImm .h dble s

/-- 22 SHLD adr (R129). -/
def execShld (adr : Word) (s : State) : Result := storeHL adr s

/-- 26 MVI H,byte (R123). -/
def execMviH (byte : Byte) (s : State) : Result := moveImm .h byte s

/-- 2A LHLD adr (R128). -/
def execLhld (adr : Word) (s : State) : Result := loadHL adr s

/-- 2E MVI L,byte (R123). -/
def execMviL (byte : Byte) (s : State) : Result := moveImm .l byte s

/-- 31 LXI SP,dble (R125). -/
def execLxiSP (dble : Word) (s : State) : Result := loadPairImm .sp dble s

/-- 32 STA adr (R131). -/
def execSta (adr : Word) (s : State) : Result := storeA adr s

/-- 36 MVI M,byte (R124). -/
def execMviM (byte : Byte) (s : State) : Result := moveImmMem byte s

/-- 3A LDA adr (R130). -/
def execLda (adr : Word) (s : State) : Result := loadA adr s

/-- 3E MVI A,byte (R123). -/
def execMviA (byte : Byte) (s : State) : Result := moveImm .a byte s

/-- 40 MOV B,B (R120). -/
def execMovBB (s : State) : Result := moveReg .b .b s

/-- 41 MOV B,C (R120). -/
def execMovBC (s : State) : Result := moveReg .b .c s

/-- 42 MOV B,D (R120). -/
def execMovBD (s : State) : Result := moveReg .b .d s

/-- 43 MOV B,E (R120). -/
def execMovBE (s : State) : Result := moveReg .b .e s

/-- 44 MOV B,H (R120). -/
def execMovBH (s : State) : Result := moveReg .b .h s

/-- 45 MOV B,L (R120). -/
def execMovBL (s : State) : Result := moveReg .b .l s

/-- 46 MOV B,M (R121). -/
def execMovBM (s : State) : Result := moveFromMem .b s

/-- 47 MOV B,A (R120). -/
def execMovBA (s : State) : Result := moveReg .b .a s

/-- 48 MOV C,B (R120). -/
def execMovCB (s : State) : Result := moveReg .c .b s

/-- 49 MOV C,C (R120). -/
def execMovCC (s : State) : Result := moveReg .c .c s

/-- 4A MOV C,D (R120). -/
def execMovCD (s : State) : Result := moveReg .c .d s

/-- 4B MOV C,E (R120). -/
def execMovCE (s : State) : Result := moveReg .c .e s

/-- 4C MOV C,H (R120). -/
def execMovCH (s : State) : Result := moveReg .c .h s

/-- 4D MOV C,L (R120). -/
def execMovCL (s : State) : Result := moveReg .c .l s

/-- 4E MOV C,M (R121). -/
def execMovCM (s : State) : Result := moveFromMem .c s

/-- 4F MOV C,A (R120). -/
def execMovCA (s : State) : Result := moveReg .c .a s

/-- 50 MOV D,B (R120). -/
def execMovDB (s : State) : Result := moveReg .d .b s

/-- 51 MOV D,C (R120). -/
def execMovDC (s : State) : Result := moveReg .d .c s

/-- 52 MOV D,D (R120). -/
def execMovDD (s : State) : Result := moveReg .d .d s

/-- 53 MOV D,E (R120). -/
def execMovDE (s : State) : Result := moveReg .d .e s

/-- 54 MOV D,H (R120). -/
def execMovDH (s : State) : Result := moveReg .d .h s

/-- 55 MOV D,L (R120). -/
def execMovDL (s : State) : Result := moveReg .d .l s

/-- 56 MOV D,M (R121). -/
def execMovDM (s : State) : Result := moveFromMem .d s

/-- 57 MOV D,A (R120). -/
def execMovDA (s : State) : Result := moveReg .d .a s

/-- 58 MOV E,B (R120). -/
def execMovEB (s : State) : Result := moveReg .e .b s

/-- 59 MOV E,C (R120). -/
def execMovEC (s : State) : Result := moveReg .e .c s

/-- 5A MOV E,D (R120). -/
def execMovED (s : State) : Result := moveReg .e .d s

/-- 5B MOV E,E (R120). -/
def execMovEE (s : State) : Result := moveReg .e .e s

/-- 5C MOV E,H (R120). -/
def execMovEH (s : State) : Result := moveReg .e .h s

/-- 5D MOV E,L (R120). -/
def execMovEL (s : State) : Result := moveReg .e .l s

/-- 5E MOV E,M (R121). -/
def execMovEM (s : State) : Result := moveFromMem .e s

/-- 5F MOV E,A (R120). -/
def execMovEA (s : State) : Result := moveReg .e .a s

/-- 60 MOV H,B (R120). -/
def execMovHB (s : State) : Result := moveReg .h .b s

/-- 61 MOV H,C (R120). -/
def execMovHC (s : State) : Result := moveReg .h .c s

/-- 62 MOV H,D (R120). -/
def execMovHD (s : State) : Result := moveReg .h .d s

/-- 63 MOV H,E (R120). -/
def execMovHE (s : State) : Result := moveReg .h .e s

/-- 64 MOV H,H (R120). -/
def execMovHH (s : State) : Result := moveReg .h .h s

/-- 65 MOV H,L (R120). -/
def execMovHL (s : State) : Result := moveReg .h .l s

/-- 66 MOV H,M (R121). -/
def execMovHM (s : State) : Result := moveFromMem .h s

/-- 67 MOV H,A (R120). -/
def execMovHA (s : State) : Result := moveReg .h .a s

/-- 68 MOV L,B (R120). -/
def execMovLB (s : State) : Result := moveReg .l .b s

/-- 69 MOV L,C (R120). -/
def execMovLC (s : State) : Result := moveReg .l .c s

/-- 6A MOV L,D (R120). -/
def execMovLD (s : State) : Result := moveReg .l .d s

/-- 6B MOV L,E (R120). -/
def execMovLE (s : State) : Result := moveReg .l .e s

/-- 6C MOV L,H (R120). -/
def execMovLH (s : State) : Result := moveReg .l .h s

/-- 6D MOV L,L (R120). -/
def execMovLL (s : State) : Result := moveReg .l .l s

/-- 6E MOV L,M (R121). -/
def execMovLM (s : State) : Result := moveFromMem .l s

/-- 6F MOV L,A (R120). -/
def execMovLA (s : State) : Result := moveReg .l .a s

/-- 70 MOV M,B (R122). -/
def execMovMB (s : State) : Result := moveToMem .b s

/-- 71 MOV M,C (R122). -/
def execMovMC (s : State) : Result := moveToMem .c s

/-- 72 MOV M,D (R122). -/
def execMovMD (s : State) : Result := moveToMem .d s

/-- 73 MOV M,E (R122). -/
def execMovME (s : State) : Result := moveToMem .e s

/-- 74 MOV M,H (R122). -/
def execMovMH (s : State) : Result := moveToMem .h s

/-- 75 MOV M,L (R122). -/
def execMovML (s : State) : Result := moveToMem .l s

/-- 77 MOV M,A (R122). -/
def execMovMA (s : State) : Result := moveToMem .a s

/-- 78 MOV A,B (R120). -/
def execMovAB (s : State) : Result := moveReg .a .b s

/-- 79 MOV A,C (R120). -/
def execMovAC (s : State) : Result := moveReg .a .c s

/-- 7A MOV A,D (R120). -/
def execMovAD (s : State) : Result := moveReg .a .d s

/-- 7B MOV A,E (R120). -/
def execMovAE (s : State) : Result := moveReg .a .e s

/-- 7C MOV A,H (R120). -/
def execMovAH (s : State) : Result := moveReg .a .h s

/-- 7D MOV A,L (R120). -/
def execMovAL (s : State) : Result := moveReg .a .l s

/-- 7E MOV A,M (R121). -/
def execMovAM (s : State) : Result := moveFromMem .a s

/-- 7F MOV A,A (R120). -/
def execMovAA (s : State) : Result := moveReg .a .a s

/-- EB XCHG (R132). -/
def execXchg (s : State) : Result := exchangeDEHL s

end Sys2Proof.Machine
end

