-- ==== Sys2Proof/Machine/Fetch.lean ====
section
/-! DEFINITION. Fetching an instruction's bytes (spec/00_scope.md R9, R10; 20_memory.md R53, R63; 42_branch_control.md
R220). -/

namespace Sys2Proof.Machine

/-- `Fetch8()` (00_scope.md R9): the byte at PC, and PC moved past it. -/
def State.fetch8 (s : State) : Byte × State :=
  let r := s.memRead s.pc
  (r.1, r.2.setPc (s.pc + 1))

/-- The next fetch would read an operand byte of a conditional that is not taken, from a device address: a read the spec
does not promise and lets have no observable side effect (42 R220 (f), 93 U8, 90_conflicts.md on R192 to R199, log 12). -/
def State.unpromisedRead (op : Byte) (s : State) : Bool := notTaken op s.flags && s.kindAt s.pc == .device

/-- Fetches one whole instruction (00_scope.md R10 step 4): the instruction, and the state with PC past it. -/
def State.fetch (s : State) : Except Refusal (Instr × State) :=
  let op := s.fetch8
  match formatOf op.1 with
  | .f1 i => .ok (i, op.2)
  | .undefined i => .ok (i, op.2)
  | .f2 build =>
    let b := op.2.fetch8
    .ok (build b.1, b.2)
  | .f3 build =>
    let lo := op.2.fetch8
    if op.2.unpromisedRead op.1 then .error (.unpromisedOperandRead op.2.pc)
    else if lo.2.unpromisedRead op.1 then .error (.unpromisedOperandRead lo.2.pc)
    else
      let hi := lo.2.fetch8
      .ok (build (joinBytes hi.1 lo.1), hi.2)

/-- Puts a byte where a fetch at the address finds it, making the address RAM where the map says device or absent. -/
def State.place (a : Word) (v : Byte) (s : State) : State :=
  { s with
    mem := s.mem.write a.toNat v
    map := match s.kindAt a with
      | .ram => s.map
      | .rom => s.map
      | .device => { first := a, last := a, kind := .ram } :: s.map
      | .absent => { first := a, last := a, kind := .ram } :: s.map }

/-- Puts bytes at rising addresses, wrapping at FFFFh. -/
def State.placeAll (a : Word) (bytes : List Byte) (s : State) : State :=
  match bytes with
  | [] => s
  | v :: rest => State.placeAll (a + 1) rest (s.place a v)

end Sys2Proof.Machine
end

