-- ==== Sys2Proof/Machine/Cycle.lean ====
section
/-! DEFINITION. The instruction step of spec/00_scope.md R10: reset, interrupt acceptance, the halt state, an instruction
with the EI bookkeeping of 43_stack_io_machine_control.md R241. -/

namespace Sys2Proof.Machine

/-- EI bookkeeping (43 R241): `pending` is EI_PENDING at the start of the step, `i` the instruction that executed. -/
def State.afterInstruction (pending : Bool) (i : Instr) (s : State) : State :=
  if pending && i != .ei && i != .di then { s with ie := true, eiPending := false } else s

/-- The EI bookkeeping on what an instruction answered. -/
def finishInstruction (pending : Bool) (i : Instr) : Result → Result
  | .next t => .next (t.afterInstruction pending i)
  | .fault f => .fault f
  | .refused r => .refused r

/-- Steps (4) and (5) of 00_scope.md R10: fetch, execute, EI bookkeeping. -/
def runInstruction (s : State) : Result :=
  match s.fetch with
  | .error r => .refused r
  | .ok (i, t) => finishInstruction s.eiPending i (exec i t)

/-- The instruction is RST n or CALL, the two that an INTR acknowledge may supply (60 R258). -/
def Instr.allowedAtInta : Instr → Bool
  | .rst0 => true
  | .rst1 => true
  | .rst2 => true
  | .rst3 => true
  | .rst4 => true
  | .rst5 => true
  | .rst6 => true
  | .rst7 => true
  | .call _ => true
  | _ => false

/-- INTR entry (60 R258): the supplied RST or CALL is executed by its own rule, PC not moved for its bytes. -/
def acknowledgeIntr (s : State) : Result :=
  let r := s.clearForEntry.intaReply
  match decode [r.1.op, r.1.byte2, r.1.byte3] with
  | .ok (i, _) => if Instr.allowedAtInta i then exec i r.2 else .refused (.intaNotRstOrCall r.1.op)
  | .error _ => .refused (.intaNotRstOrCall r.1.op)

/-- What happens at a boundary after the sample is taken and the edges are latched (00_scope.md R10 steps 2 to 5). -/
def boundary (s : State) : Result :=
  match s.accepted with
  | some (.vectored v) => .next (s.takeInterrupt v)
  | some .intr => acknowledgeIntr s
  | none => if s.halted then .next s else runInstruction s

/-- One step of the processor (00_scope.md R10). -/
def cycle (s : State) : Result :=
  let t := s.takeSample
  if t.env.lines.reset then .next t.resetEvent else boundary t.latchEdges

/-- The coming step fetches an instruction: no reset is requested, no interrupt is accepted, the processor is not
halted. -/
def State.fetchesNext (s : State) : Bool :=
  let t := s.takeSample
  !t.env.lines.reset && t.latchEdges.accepted.isNone && !s.halted

/-- The state made to fetch at its coming step, if it would do something else: all lines low in the coming sample, no
RST 7.5 request latched, not halted. -/
def State.quieted (s : State) : State :=
  if s.fetchesNext then s
  else { s with i75 := false, halted := false, env := { s.env with samples := Lines.low :: s.env.samples } }

end Sys2Proof.Machine
end

