-- ==== Sys2Proof/Machine/Step.lean ====
section
/-! DEFINITION. The step function, and where an instruction is placed for it. -/

namespace Sys2Proof.Machine

/-- One step of the processor: `cycle`, spec/00_scope.md R10. -/
def step (s : State) : Host.Outcome State Fault Refusal := cycle s

/-- The state with the instruction whose bits are `w` (byte 1 least significant, the bytes above `nbits` zero, three
bytes in all) stored at PC, PC+1 and PC+2, and made to fetch at its coming step. -/
def State.withFetchWord (s : State) (nbits w : Nat) : State := (s.placeAll s.pc (tableBytes nbits w)).quieted

end Sys2Proof.Machine
end

