-- ==== Sys2Proof/Safety.lean ====
section
/-! DEFINITION. What counts as a good state and a good run, in the terms the statements use. -/

namespace Sys2Proof.Machine

/-- What every step keeps: memory is canonical; the remembered levels are the levels of the latest step, 0 after a reset
(60_exceptions.md R253, 70_reset_and_hazards.md R280); a latched TRAP whose line is high never waits, since it is
accepted at once (60 R255). -/
def State.Inv (s : State) : Prop :=
  s.mem.wf = true ∧
  s.prev75 = (s.env.lines.r75 && !s.env.lines.reset) ∧
  s.prevTrap = (s.env.lines.trap && !s.env.lines.reset) ∧
  (s.trapLatch && s.env.lines.trap) = false

/-- A run of `n` steps is safe when none of its steps is refused (no step faults: 60 R250). -/
def SafeRun (n : Nat) (s : State) : Prop := ∃ t, Host.Core.run Sys2Proof.core n s = .next t

end Sys2Proof.Machine
end

