-- ==== Sys2Proof/WellFormed.lean ====
section
/-! DEFINITION. Which instruction terms are instructions. Every operand has exactly the width its encoding gives it, so
the only check is that byte 1 is one of the 246 defined values (spec/30_encoding.md R89, R90). -/

namespace Sys2Proof

/-- The undefined value of byte 1 that the term stands for, if it is one of the ten of rule R90. -/
def Instr.undefinedOpcode? : Instr → Option Byte
  | .undef08 => some 0x08
  | .undef10 => some 0x10
  | .undef18 => some 0x18
  | .undef28 => some 0x28
  | .undef38 => some 0x38
  | .undefCB => some 0xCB
  | .undefD9 => some 0xD9
  | .undefDD => some 0xDD
  | .undefED => some 0xED
  | .undefFD => some 0xFD
  | _ => none

/-- A term is well formed when it is one of the 246 defined instructions: not one of the ten undefined values (R90). -/
def Instr.wellFormed (i : Instr) : Bool := i.undefinedOpcode?.isNone

end Sys2Proof
end

