-- ==== Sys2Proof/Certificates/Slice0/Obligations.lean ====
section
/-! DEFINITION. The statements for the provers, from the numbered rules of spec/. Per-instruction statements name the
instruction by the bytes that encode it, give the whole next state (so what is not named is unchanged) and are about the
state with PC already past the instruction (spec/00_scope.md R10). -/

namespace Sys2Proof.Spec

open Sys2Proof.Machine

/-! ## The terms of the statements -/

/-- Byte 1 from its sub-fields 7:6, 5:3 and 2:0 (30_encoding.md R82). -/
def op (q : BitVec 2) (y z : BitVec 3) : Byte := q ++ y ++ z

/-- Byte 1 from its sub-fields 7:6, 5:4 and 3:0 (30_encoding.md R82). -/
def opPair (q p : BitVec 2) (z : BitVec 4) : Byte := q ++ p ++ z

/-- The value of byte 1. -/
def opcode (i : Instr) : Nat := ((encode i).headD 0).toNat

/-- The number of 1 bits is even (41 R141). -/
def evenOnes (v : Byte) : Bool := (List.range 8).countP (fun k => v.getLsbD k) % 2 == 0

/-- Z, S and P of a result (41 R141), with AC and CY as given. -/
def flagsOf (res : Byte) (ac cy : Bool) : Flags :=
  { z := decide (res = 0), s := decide (128 ≤ res.toNat), p := evenOnes res, ac := ac, cy := cy }

/-- The 8-bit addition of 41 R142. -/
def add (a b : Byte) (cin : Bool) : Byte × Flags :=
  let t := a.toNat + b.toNat + cin.toNat
  (BitVec.ofNat 8 t,
    flagsOf (BitVec.ofNat 8 t) (decide (a.toNat % 16 + b.toNat % 16 + cin.toNat ≥ 16)) (decide (t ≥ 256)))

/-- The 8-bit subtraction of 41 R143: CY exactly when a < b + bin, AC exactly when there is no borrow from bit 4. -/
def sub (a b : Byte) (bin : Bool) : Byte × Flags :=
  let res := a - b - (if bin then 1 else 0)
  (res, flagsOf res (decide (a.toNat % 16 ≥ b.toNat % 16 + bin.toNat)) (decide (a.toNat < b.toNat + bin.toNat)))

/-- The adjustment of 41 R155. -/
def daa (a : Byte) (f : Flags) : Byte × Flags :=
  let lo := a.toNat % 16
  let hi := a.toNat / 16
  let low := 9 < lo ∨ f.ac = true
  let high := 9 < hi ∨ f.cy = true ∨ (9 ≤ hi ∧ 9 < lo)
  let adj : Byte := if low then (if high then 0x66 else 0x06) else (if high then 0x60 else 0x00)
  let r := add a adj false
  (r.1, { r.2 with cy := decide (f.cy = true ∨ high) })

/-- A <- r.1, the five flags <- r.2, on the state after the operand read. -/
def withResult (s : State) (r : Byte × Flags) : State :=
  { s with regs := { s.regs with a := r.1 }, flags := r.2 }

/-- A <- MemRead(a, 1). -/
def loadedA (s : State) (a : Word) : State :=
  { (s.memRead a).2 with regs := { s.regs with a := (s.memRead a).1 } }

/-- The operand of an 8-bit operation: a register, or M, the byte at HL, with the state after the read (41 R140). -/
def operand (s : State) (o : Opnd) : Byte × State :=
  match o with
  | .reg r => (s.regs.get r, s)
  | .m => s.memRead (joinBytes s.regs.h s.regs.l)

/-- The 16-bit value of the pair: the left register is the high-order byte (10_state.md R22). -/
def pairValue (s : State) (p : Pair) : Word :=
  match p with
  | .b => joinBytes s.regs.b s.regs.c
  | .d => joinBytes s.regs.d s.regs.e
  | .h => joinBytes s.regs.h s.regs.l
  | .sp => s.sp

/-- The pair gets the value: its high-order byte goes to the left register (10_state.md R22). -/
def withPair (s : State) (p : Pair) (v : Word) : State :=
  match p with
  | .b => { s with regs := { s.regs with b := highByte v, c := lowByte v } }
  | .d => { s with regs := { s.regs with d := highByte v, e := lowByte v } }
  | .h => { s with regs := { s.regs with h := highByte v, l := lowByte v } }
  | .sp => { s with sp := v }

/-- Push16(PC); PC <- a (43 R230): high byte at SP-1, low byte at SP-2, SP <- SP-2. -/
def called (s : State) (a : Word) : State :=
  { (s.memWrite (s.sp - 1) (highByte s.pc)).memWrite (s.sp - 2) (lowByte s.pc) with sp := s.sp - 2, pc := a }

/-- The state at the boundary of a step: the sample taken, the edges latched (60 R252, R253). -/
def atBoundary (s : State) : State := s.takeSample.latchEdges

/-- The step requests a reset. -/
def resetRequested (s : State) : Prop := s.takeSample.env.lines.reset = true

/-- The step executes an instruction: no reset, no interrupt accepted, not halted. -/
def executes (s : State) : Prop := ¬ resetRequested s ∧ (atBoundary s).accepted = none ∧ s.halted = false

/-- RAM or ROM stands at the address. -/
def stored (s : State) (a : Word) : Prop := s.kindAt a = .ram ∨ s.kindAt a = .rom

/-- The stack slots that a push writes are RAM. -/
def stackInRam (s : State) : Prop := s.kindAt (s.sp - 1) = .ram ∧ s.kindAt (s.sp - 2) = .ram

/-- The ten undefined values of byte 1 (30_encoding.md R90). -/
def undefinedOpcodes : List Byte := [0x08, 0x10, 0x18, 0x28, 0x38, 0xCB, 0xD9, 0xDD, 0xED, 0xFD]

/-- The two-byte values of byte 1 (30_encoding.md R83). -/
def twoByteOpcodes : List Byte :=
  [0x06, 0x0E, 0x16, 0x1E, 0x26, 0x2E, 0x36, 0x3E, 0xC6, 0xCE, 0xD6, 0xDE, 0xE6, 0xEE, 0xF6, 0xFE, 0xD3, 0xDB]

/-- The three-byte values of byte 1 (30_encoding.md R83). -/
def threeByteOpcodes : List Byte :=
  [0x01, 0x11, 0x21, 0x31, 0x22, 0x2A, 0x32, 0x3A, 0xC3, 0xC2, 0xCA, 0xD2, 0xDA, 0xE2, 0xEA, 0xF2, 0xFA, 0xCD, 0xC4,
    0xCC, 0xD4, 0xDC, 0xE4, 0xEC, 0xF4, 0xFC]

/-- Class `*` of 10_state.md R27: every flag is written. -/
def writesAllFlags (n : Nat) : Prop :=
  (0x80 ≤ n ∧ n < 0xC0) ∨ (0xC0 ≤ n ∧ n % 8 = 6) ∨ n = 0x27 ∨ n = 0xF1

/-- Class `**` of 10_state.md R27: INR and DCR. -/
def writesAllButCarry (n : Nat) : Prop := n < 0x40 ∧ (n % 8 = 4 ∨ n % 8 = 5)

/-- Class `†` of 10_state.md R27: DAD, the rotates, STC, CMC. -/
def writesCarryOnly (n : Nat) : Prop := n ∈ [0x09, 0x19, 0x29, 0x39, 0x07, 0x0F, 0x17, 0x1F, 0x37, 0x3F]

/-- The register with the 3-bit code, none for M. -/
def regOfCode (k : Nat) : List Reg := [Reg.b, .c, .d, .e, .h, .l, .a].filter (fun q => q.code.toNat == k)

/-- The registers of the pair with the 2-bit code, none for SP. -/
def regsOfPair (k : Nat) : List Reg := if k = 0 then [.b, .c] else if k = 1 then [.d, .e] else if k = 2 then [.h, .l] else []

/-- The general registers that the instruction with this byte 1 may write: its destination, and no other. -/
def destinations (n : Nat) : List Reg :=
  if n < 0x40 then
    if n % 8 = 4 ∨ n % 8 = 5 ∨ n % 8 = 6 then regOfCode (n / 8)
    else if n % 16 = 1 ∨ n % 8 = 3 then regsOfPair (n / 16)
    else if n % 16 = 9 ∨ n = 0x2A then [.h, .l]
    else if (n % 8 = 7 ∧ n < 0x30) ∨ n = 0x0A ∨ n = 0x1A ∨ n = 0x3A ∨ n = 0x20 then [.a]
    else []
  else if n < 0x80 then regOfCode (n / 8 % 8)
  else if n < 0xC0 then (if n < 0xB8 then [.a] else [])
  else if n % 8 = 6 then (if n = 0xFE then [] else [.a])
  else if n = 0xF1 ∨ n = 0xDB then [.a]
  else if n % 16 = 1 then regsOfPair (n / 16 % 4)
  else if n = 0xE3 then [.h, .l]
  else if n = 0xEB then [.d, .e, .h, .l]
  else []

/-- The values of byte 1 that may write SP (10_state.md R24). -/
def mayWriteSp (n : Nat) : Prop :=
  n ∈ [0x31, 0x33, 0x3B, 0xF9, 0xCD, 0xC9] ∨
    (0xC0 ≤ n ∧ (n % 8 = 0 ∨ n % 8 = 4 ∨ n % 8 = 7 ∨ n % 16 = 1 ∨ n % 16 = 5))

/-- The values of byte 1 that may transfer control (42): Rcc, Jcc, Ccc, RST, JMP, CALL, RET, PCHL. -/
def mayTransfer (n : Nat) : Prop :=
  0xC0 ≤ n ∧ (n % 8 = 0 ∨ n % 8 = 2 ∨ n % 8 = 4 ∨ n % 8 = 7 ∨ n ∈ [0xC3, 0xCD, 0xC9, 0xE9])

/-- The two stack slots of a push. -/
def pushed (s : State) : List Word := [s.sp - 1, s.sp - 2]

/-- The addresses the instruction stores to: HL for the M destinations, BC or DE for STAX, the address in the instruction
for STA and SHLD, the two bytes below SP for a push, a call taken and a restart, the two at SP for XTHL; for every other
form none. -/
def storesTo (i : Instr) (s : State) : List Word :=
  match i with
  | .movMB | .movMC | .movMD | .movME | .movMH | .movML | .movMA | .mviM _ | .inrM | .dcrM => [s.hl]
  | .staxB => [s.regs.bc]
  | .staxD => [s.regs.de]
  | .sta a => [a]
  | .shld a => [a, a + 1]
  | .pushB | .pushD | .pushH | .pushPSW | .call _ => pushed s
  | .rst0 | .rst1 | .rst2 | .rst3 | .rst4 | .rst5 | .rst6 | .rst7 => pushed s
  | .cnz _ => if s.flags.z = false then pushed s else []
  | .cz _ => if s.flags.z = true then pushed s else []
  | .cnc _ => if s.flags.cy = false then pushed s else []
  | .cc _ => if s.flags.cy = true then pushed s else []
  | .cpo _ => if s.flags.p = false then pushed s else []
  | .cpe _ => if s.flags.p = true then pushed s else []
  | .cp _ => if s.flags.s = false then pushed s else []
  | .cm _ => if s.flags.s = true then pushed s else []
  | .xthl => [s.sp, s.sp + 1]
  | _ => []

/-- The interrupt, serial and hidden state of 10_state.md R30 to R33 with the remembered levels. -/
def controlBits (s : State) : List Bool :=
  [s.ie, s.m75, s.m65, s.m55, s.i75, s.trapLatch, s.sod, s.halted, s.eiPending, s.ieAtTrap, s.ieAtTrapValid, s.prev75,
    s.prevTrap]

/-- The condition with the 3-bit code holds of the flags (42 R190). -/
def conditionHolds (f : Flags) (ccc : BitVec 3) : Prop :=
  match ccc.toNat with
  | 0 => f.z = false
  | 1 => f.z = true
  | 2 => f.cy = false
  | 3 => f.cy = true
  | 4 => f.p = false
  | 5 => f.p = true
  | 6 => f.s = false
  | _ => f.s = true

/-- Byte 1 of a conditional jump or call whose condition does not hold (42 R192 to R199, R202 to R209). -/
def operandsUnused (f : Flags) (b : Byte) : Prop :=
  ∃ ccc : BitVec 3, (b = op 3 ccc 2 ∨ b = op 3 ccc 4) ∧ ¬ conditionHolds f ccc

/-- A fetch sees the byte that the instruction stores at the address, where RAM stands (20_memory.md R63). -/
def storeSeen (s : State) (i : Instr) (a : Word) (v : Byte) : Prop :=
  s.kindAt a = .ram → ∃ t, exec i s = .next t ∧ ({ t with pc := a }).fetch8.1 = v

/-- The byte is two decimal digits. -/
def isBcd (v : Byte) : Prop := v.toNat % 16 ≤ 9 ∧ v.toNat / 16 ≤ 9

/-- The number two decimal digits stand for. -/
def bcdValue (v : Byte) : Nat := 10 * (v.toNat / 16) + v.toNat % 16

end Sys2Proof.Spec

open Sys2Proof Sys2Proof.Machine Sys2Proof.Spec

/-! ## Encoding -/

/-- Decoding what an instruction encodes to gives the instruction back, whatever bytes follow: for every instruction and
every value of its operands (30_encoding.md R80, R81, R84, R89). -/
def Obligations.DecodeOfEncode : Prop :=
  ∀ (i : Instr) (rest : List Byte), decode (encode i ++ rest) = .ok (i, rest)

/-- Bytes that decode to an instruction are that instruction's encoding: every byte string has one reading
(30_encoding.md R80, R91). -/
def Obligations.EncodeOfDecode : Prop :=
  ∀ (bytes rest : List Byte) (i : Instr), decode bytes = .ok (i, rest) → encode i ++ rest = bytes

/-- The length classes of 30_encoding.md R83: byte 1 alone says how many operand bytes there are, and one byte 1 has
exactly one instruction up to its operand bytes (30_encoding.md R80). An undefined value, which R90 gives no length, is
encoded as its one byte: the model's choice (log 10). -/
def Obligations.FirstByteDeterminesLength : Prop :=
  ∀ (i j : Instr) (b : Byte) (xs ys : List Byte), encode i = b :: xs → encode j = b :: ys →
    xs.length = (if b ∈ twoByteOpcodes then 1 else if b ∈ threeByteOpcodes then 2 else 0) ∧ (xs = ys → i = j)

/-- One word of each family decodes to the instruction the opcode map gives it (30_encoding.md R89). -/
def Obligations.DecodedWords : Prop :=
  decode [0x78] = .ok (.movAB, []) ∧ decode [0x76] = .ok (.hlt, []) ∧
  decode [0x21, 0x50, 0x20] = .ok (.lxiH 0x2050, []) ∧ decode [0xC6, 0x42] = .ok (.adi 0x42, []) ∧
  decode [0xC3, 0x34, 0x12] = .ok (.jmp 0x1234, []) ∧ decode [0xF5] = .ok (.pushPSW, []) ∧
  decode [0xDB, 0x10] = .ok (.inPort 0x10, []) ∧ decode [0x1F] = .ok (.rar, []) ∧ decode [0x20] = .ok (.rim, []) ∧
  decode [0xCD, 0x00] = .error (.operandMissing 0xCD)

/-! ## Data transfer -/

/-- MOV r1,r2 (R120). -/
def Obligations.MovRegister : Prop :=
  ∀ (i : Instr) (dst src : Reg) (s : State), encode i = [op 1 dst.code src.code] →
    exec i s = .next { s with regs := s.regs.set dst (s.regs.get src) }

/-- MOV r,M and MOV M,r (R121, R122): M is the byte at HL. -/
def Obligations.MovMemory : Prop :=
  ∀ (i : Instr) (r : Reg) (s : State), let hl := joinBytes s.regs.h s.regs.l
    (encode i = [op 1 r.code 6] →
      exec i s = .next { (s.memRead hl).2 with regs := s.regs.set r (s.memRead hl).1 }) ∧
    (encode i = [op 1 6 r.code] → exec i s = .next (s.memWrite hl (s.regs.get r)))

/-- MVI r,byte and MVI M,byte (R123, R124). -/
def Obligations.MoveImmediate : Prop :=
  ∀ (i : Instr) (byte : Byte) (s : State),
    (∀ r : Reg, encode i = [op 0 r.code 6, byte] → exec i s = .next { s with regs := s.regs.set r byte }) ∧
    (encode i = [0x36, byte] → exec i s = .next (s.memWrite (joinBytes s.regs.h s.regs.l) byte))

/-- LXI rp,dble (R125): byte 2 goes to the low register, byte 3 to the high one. -/
def Obligations.LoadPairImmediate : Prop :=
  ∀ (i : Instr) (lo hi : Byte) (s : State),
    (encode i = [opPair 0 0 1, lo, hi] → exec i s = .next { s with regs := { s.regs with b := hi, c := lo } }) ∧
    (encode i = [opPair 0 1 1, lo, hi] → exec i s = .next { s with regs := { s.regs with d := hi, e := lo } }) ∧
    (encode i = [opPair 0 2 1, lo, hi] → exec i s = .next { s with regs := { s.regs with h := hi, l := lo } }) ∧
    (encode i = [opPair 0 3 1, lo, hi] → exec i s = .next { s with sp := joinBytes hi lo })

/-- LDAX B, LDAX D and LDA adr (R126, R130). -/
def Obligations.LoadAccumulator : Prop :=
  ∀ (i : Instr) (lo hi : Byte) (s : State),
    (encode i = [0x0A] → exec i s = .next (loadedA s (joinBytes s.regs.b s.regs.c))) ∧
    (encode i = [0x1A] → exec i s = .next (loadedA s (joinBytes s.regs.d s.regs.e))) ∧
    (encode i = [0x3A, lo, hi] → exec i s = .next (loadedA s (joinBytes hi lo)))

/-- STAX B, STAX D and STA adr (R127, R131). -/
def Obligations.StoreAccumulator : Prop :=
  ∀ (i : Instr) (lo hi : Byte) (s : State),
    (encode i = [0x02] → exec i s = .next (s.memWrite (joinBytes s.regs.b s.regs.c) s.regs.a)) ∧
    (encode i = [0x12] → exec i s = .next (s.memWrite (joinBytes s.regs.d s.regs.e) s.regs.a)) ∧
    (encode i = [0x32, lo, hi] → exec i s = .next (s.memWrite (joinBytes hi lo) s.regs.a))

/-- LHLD adr, SHLD adr and XCHG (R128, R129, R132): L with adr, H with adr + 1, the lower address first. -/
def Obligations.HlTransfer : Prop :=
  ∀ (i : Instr) (lo hi : Byte) (s : State), let a := joinBytes hi lo
    (encode i = [0x2A, lo, hi] →
      exec i s = .next (let l := s.memRead a
        let h := l.2.memRead (a + 1)
        { h.2 with regs := { s.regs with l := l.1, h := h.1 } })) ∧
    (encode i = [0x22, lo, hi] → exec i s = .next ((s.memWrite a s.regs.l).memWrite (a + 1) s.regs.h)) ∧
    (encode i = [0xEB] →
      exec i s = .next
        { s with regs := { s.regs with d := s.regs.h, e := s.regs.l, h := s.regs.d, l := s.regs.e } })

/-! ## Arithmetic and logic -/

/-- ADD, ADC, ADI, ACI (R144, R145, R167, R168, with the addition of R142). -/
def Obligations.AddGroup : Prop :=
  ∀ (i : Instr) (s : State),
    (∀ o : Opnd, let v := operand s o
      (encode i = [op 2 0 o.code] → exec i s = .next (withResult v.2 (add s.regs.a v.1 false))) ∧
      (encode i = [op 2 1 o.code] → exec i s = .next (withResult v.2 (add s.regs.a v.1 s.flags.cy)))) ∧
    (∀ byte : Byte,
      (encode i = [0xC6, byte] → exec i s = .next (withResult s (add s.regs.a byte false))) ∧
      (encode i = [0xCE, byte] → exec i s = .next (withResult s (add s.regs.a byte s.flags.cy))))

/-- SUB, SBB, CMP, SUI, SBI, CPI (R146, R147, R166, R169, R170, R174, with the subtraction of R143): the compares write
the flags only. -/
def Obligations.SubtractGroup : Prop :=
  ∀ (i : Instr) (s : State),
    (∀ o : Opnd, let v := operand s o
      (encode i = [op 2 2 o.code] → exec i s = .next (withResult v.2 (sub s.regs.a v.1 false))) ∧
      (encode i = [op 2 3 o.code] → exec i s = .next (withResult v.2 (sub s.regs.a v.1 s.flags.cy))) ∧
      (encode i = [op 2 7 o.code] → exec i s = .next { v.2 with flags := (sub s.regs.a v.1 false).2 })) ∧
    (∀ byte : Byte,
      (encode i = [0xD6, byte] → exec i s = .next (withResult s (sub s.regs.a byte false))) ∧
      (encode i = [0xDE, byte] → exec i s = .next (withResult s (sub s.regs.a byte s.flags.cy))) ∧
      (encode i = [0xFE, byte] → exec i s = .next { s with flags := (sub s.regs.a byte false).2 }))

/-- ANA, XRA, ORA, ANI, XRI, ORI (R163 to R165, R171 to R173): CY <- 0; AC <- 1 for AND, 0 for the others. -/
def Obligations.LogicGroup : Prop :=
  ∀ (i : Instr) (s : State),
    (∀ o : Opnd, let v := operand s o
      (encode i = [op 2 4 o.code] →
        exec i s = .next (withResult v.2 (s.regs.a &&& v.1, flagsOf (s.regs.a &&& v.1) true false))) ∧
      (encode i = [op 2 5 o.code] →
        exec i s = .next (withResult v.2 (s.regs.a ^^^ v.1, flagsOf (s.regs.a ^^^ v.1) false false))) ∧
      (encode i = [op 2 6 o.code] →
        exec i s = .next (withResult v.2 (s.regs.a ||| v.1, flagsOf (s.regs.a ||| v.1) false false)))) ∧
    (∀ byte : Byte,
      (encode i = [0xE6, byte] →
        exec i s = .next (withResult s (s.regs.a &&& byte, flagsOf (s.regs.a &&& byte) true false))) ∧
      (encode i = [0xEE, byte] →
        exec i s = .next (withResult s (s.regs.a ^^^ byte, flagsOf (s.regs.a ^^^ byte) false false))) ∧
      (encode i = [0xF6, byte] →
        exec i s = .next (withResult s (s.regs.a ||| byte, flagsOf (s.regs.a ||| byte) false false))))

/-- INR r, INR M, DCR r, DCR M (R149, R150, R152, R153): CY is kept; M is read once, then written once. -/
def Obligations.IncrementDecrement : Prop :=
  ∀ (i : Instr) (s : State), let hl := joinBytes s.regs.h s.regs.l
    let inc := fun v : Byte => flagsOf (v + 1) (decide (v.toNat % 16 = 15)) s.flags.cy
    let dec := fun v : Byte => flagsOf (v - 1) (decide (v.toNat % 16 ≠ 0)) s.flags.cy
    (∀ r : Reg, let v := s.regs.get r
      (encode i = [op 0 r.code 4] → exec i s = .next { s with regs := s.regs.set r (v + 1), flags := inc v }) ∧
      (encode i = [op 0 r.code 5] → exec i s = .next { s with regs := s.regs.set r (v - 1), flags := dec v })) ∧
    (encode i = [0x34] → exec i s = .next
      { (s.memRead hl).2.memWrite hl ((s.memRead hl).1 + 1) with flags := inc (s.memRead hl).1 }) ∧
    (encode i = [0x35] → exec i s = .next
      { (s.memRead hl).2.memWrite hl ((s.memRead hl).1 - 1) with flags := dec (s.memRead hl).1 })

/-- INX rp and DCX rp (R151, R154): the pair moves by one modulo 65536 and nothing else changes. -/
def Obligations.PairIncrementDecrement : Prop :=
  ∀ (i : Instr) (p : Pair) (s : State),
    (encode i = [opPair 0 p.code 3] → exec i s = .next (withPair s p (pairValue s p + 1))) ∧
    (encode i = [opPair 0 p.code 11] → exec i s = .next (withPair s p (pairValue s p - 1)))

/-- DAD rp (R148): the 16-bit sum in HL, CY its carry, no other flag. -/
def Obligations.DoubleAdd : Prop :=
  ∀ (i : Instr) (p : Pair) (s : State), encode i = [opPair 0 p.code 9] →
    let sum := joinBytes s.regs.h s.regs.l + pairValue s p
    exec i s = .next
      { s with
        regs := { s.regs with h := highByte sum, l := lowByte sum }
        flags := { s.flags with cy := decide ((joinBytes s.regs.h s.regs.l).toNat + (pairValue s p).toNat ≥ 65536) } }

/-- DAA (R155). -/
def Obligations.DecimalAdjust : Prop :=
  ∀ (i : Instr) (s : State), encode i = [0x27] → exec i s = .next (withResult s (daa s.regs.a s.flags))

/-- CMA, STC, CMC, RLC, RRC, RAL, RAR (R156 to R162). -/
def Obligations.SpecialsAndRotates : Prop :=
  ∀ (i : Instr) (s : State), let a := s.regs.a
    let rotated := fun (r : Byte) (b : Bool) =>
      { s with regs := { s.regs with a := r }, flags := { s.flags with cy := b } }
    (encode i = [0x2F] → exec i s = .next { s with regs := { s.regs with a := ~~~a } }) ∧
    (encode i = [0x37] → exec i s = .next { s with flags := { s.flags with cy := true } }) ∧
    (encode i = [0x3F] → exec i s = .next { s with flags := { s.flags with cy := !s.flags.cy } }) ∧
    (encode i = [0x07] → exec i s = .next (rotated (a.rotateLeft 1) (a.getLsbD 7))) ∧
    (encode i = [0x0F] → exec i s = .next (rotated (a.rotateRight 1) (a.getLsbD 0))) ∧
    (encode i = [0x17] →
      exec i s = .next (rotated (a <<< 1 ||| (if s.flags.cy then 0x01 else 0x00)) (a.getLsbD 7))) ∧
    (encode i = [0x1F] →
      exec i s = .next (rotated (a >>> 1 ||| (if s.flags.cy then 0x80 else 0x00)) (a.getLsbD 0)))

/-! ## Branches -/

/-- JMP, the eight conditional jumps, PCHL (R190 to R200): only PC is written. -/
def Obligations.Jumps : Prop :=
  ∀ (i : Instr) (lo hi : Byte) (s : State),
    (encode i = [0xC3, lo, hi] → exec i s = .next { s with pc := joinBytes hi lo }) ∧
    (∀ ccc : BitVec 3, encode i = [op 3 ccc 2, lo, hi] →
      (conditionHolds s.flags ccc → exec i s = .next { s with pc := joinBytes hi lo }) ∧
      (¬ conditionHolds s.flags ccc → exec i s = .next s)) ∧
    (encode i = [0xE9] → exec i s = .next { s with pc := joinBytes s.regs.h s.regs.l })

/-- CALL, the eight conditional calls, RST n (R190, R201 to R209, R219): the return address goes on the stack, high byte
at SP-1, low byte at SP-2. -/
def Obligations.Calls : Prop :=
  ∀ (i : Instr) (lo hi : Byte) (s : State),
    (encode i = [0xCD, lo, hi] → exec i s = .next (called s (joinBytes hi lo))) ∧
    (∀ ccc : BitVec 3, encode i = [op 3 ccc 4, lo, hi] →
      (conditionHolds s.flags ccc → exec i s = .next (called s (joinBytes hi lo))) ∧
      (¬ conditionHolds s.flags ccc → exec i s = .next s)) ∧
    (∀ n : BitVec 3, encode i = [op 3 n 7] → exec i s = .next (called s (BitVec.ofNat 16 (8 * n.toNat))))

/-- RET and the eight conditional returns (R190, R210 to R218): low byte from SP, high byte from SP+1. -/
def Obligations.Returns : Prop :=
  ∀ (i : Instr) (s : State), let lo := s.memRead s.sp
    let hi := lo.2.memRead (s.sp + 1)
    let returned := { hi.2 with sp := s.sp + 2, pc := joinBytes hi.1 lo.1 }
    (encode i = [0xC9] → exec i s = .next returned) ∧
    (∀ ccc : BitVec 3, encode i = [op 3 ccc 0] →
      (conditionHolds s.flags ccc → exec i s = .next returned) ∧
      (¬ conditionHolds s.flags ccc → exec i s = .next s))

/-! ## Stack, input and output, control -/

/-- PUSH rp and PUSH PSW (R231, R232): the high-order byte at SP-1, then the low-order byte at SP-2; the byte that PUSH PSW
stores there has the five flags in bits 7, 6, 4, 2, 0. Bits 5, 3, 1 are undefined (10_state.md R29); that they are three
draws, in that order, from State's queue or free value is the model's choice (log 6). -/
def Obligations.Pushes : Prop :=
  ∀ (i : Instr) (s : State),
    (∀ p : Pair, p ≠ .sp → encode i = [opPair 3 p.code 5] → exec i s = .next
      { (s.memWrite (s.sp - 1) (highByte (pairValue s p))).memWrite (s.sp - 2) (lowByte (pairValue s p)) with sp := s.sp - 2 }) ∧
    (encode i = [0xF5] → ∃ f : Byte,
      f.getLsbD 7 = s.flags.s ∧ f.getLsbD 6 = s.flags.z ∧ f.getLsbD 4 = s.flags.ac ∧ f.getLsbD 2 = s.flags.p ∧
      f.getLsbD 0 = s.flags.cy ∧
      f.getLsbD 5 = s.anyBit.1 ∧ f.getLsbD 3 = s.anyBit.2.anyBit.1 ∧ f.getLsbD 1 = s.anyBit.2.anyBit.2.anyBit.1 ∧
      exec i s = .next
        { ((s.anyBit.2.anyBit.2.anyBit.2).memWrite (s.sp - 1) s.regs.a).memWrite (s.sp - 2) f with sp := s.sp - 2 })

/-- POP rp and POP PSW (R233, R234): low-order byte from SP, then high-order byte from SP+1; POP PSW ignores bits 5, 3, 1
of the flag byte. -/
def Obligations.Pops : Prop :=
  ∀ (i : Instr) (s : State), let lo := s.memRead s.sp
    let hi := lo.2.memRead (s.sp + 1)
    (encode i = [0xC1] → exec i s = .next { hi.2 with sp := s.sp + 2, regs := { s.regs with b := hi.1, c := lo.1 } }) ∧
    (encode i = [0xD1] → exec i s = .next { hi.2 with sp := s.sp + 2, regs := { s.regs with d := hi.1, e := lo.1 } }) ∧
    (encode i = [0xE1] → exec i s = .next { hi.2 with sp := s.sp + 2, regs := { s.regs with h := hi.1, l := lo.1 } }) ∧
    (encode i = [0xF1] → exec i s = .next
      { hi.2 with
        sp := s.sp + 2
        regs := { s.regs with a := hi.1 }
        flags := { s := lo.1.getLsbD 7, z := lo.1.getLsbD 6, ac := lo.1.getLsbD 4, p := lo.1.getLsbD 2,
                   cy := lo.1.getLsbD 0 } })

/-- XTHL and SPHL (R235, R236): XTHL reads SP, reads SP+1, writes H at SP+1, writes L at SP; SP is unchanged. -/
def Obligations.StackExchange : Prop :=
  ∀ (i : Instr) (s : State), let lo := s.memRead s.sp
    let hi := lo.2.memRead (s.sp + 1)
    (encode i = [0xE3] → exec i s = .next
      { (hi.2.memWrite (s.sp + 1) s.regs.h).memWrite s.sp s.regs.l with
        regs := { s.regs with h := hi.1, l := lo.1 } }) ∧
    (encode i = [0xF9] → exec i s = .next { s with sp := joinBytes s.regs.h s.regs.l })

/-- IN and OUT (R237, R238): IN takes the environment's answer into A and OUT appends (port, A) to what the environment
has received; neither changes memory. That answers and events are queues in State is the model's choice (log 5). -/
def Obligations.InputOutput : Prop :=
  ∀ (i : Instr) (port : Byte) (s : State),
    (encode i = [0xDB, port] → exec i s = .next
      { s with
        regs := { s.regs with a := s.answer.1 }
        env := { s.answer.2.env with events := s.env.events ++ [.portRead port s.answer.1] } }) ∧
    (encode i = [0xD3, port] → exec i s = .next
      { s with env := { s.env with events := s.env.events ++ [.portWrite port s.regs.a] } })

/-- DI, EI, NOP, HLT (R239, R240, R242, R243). -/
def Obligations.InterruptControl : Prop :=
  ∀ (i : Instr) (s : State),
    (encode i = [0xF3] → exec i s = .next { s with ie := false, eiPending := false }) ∧
    (encode i = [0xFB] → exec i s = .next { s with eiPending := true }) ∧
    (encode i = [0x00] → exec i s = .next s) ∧
    (encode i = [0x76] → exec i s = .next { s with halted := true })

/-- RIM (R244): the eight bits of A after it; bit 3 is IE_AT_TRAP in the first RIM after a TRAP entry and IE in every
other. Right after EI the spec leaves bit 3 open (93_implementation_defined.md U6 (b)): that it is then a draw, also when
IE_AT_TRAP_VALID = 1, is the model's choice (log 7; what a draw is: log 6). Nothing else changes but IE_AT_TRAP_VALID and the
draw. -/
def Obligations.ReadInterruptMasks : Prop :=
  ∀ (i : Instr) (s : State), encode i = [0x20] → ∃ a : Byte,
    a.getLsbD 7 = s.env.lines.sid ∧ a.getLsbD 6 = s.i75 ∧ a.getLsbD 5 = s.env.lines.r65 ∧
    a.getLsbD 4 = s.env.lines.r55 ∧ a.getLsbD 2 = s.m75 ∧ a.getLsbD 1 = s.m65 ∧ a.getLsbD 0 = s.m55 ∧
    (s.eiPending = false →
      a.getLsbD 3 = (if s.ieAtTrapValid then s.ieAtTrap else s.ie) ∧
      exec i s = .next { s with regs := { s.regs with a := a }, ieAtTrapValid := false }) ∧
    (s.eiPending = true →
      a.getLsbD 3 = s.anyBit.1 ∧
      exec i s = .next { s.anyBit.2 with regs := { s.regs with a := a }, ieAtTrapValid := false })

/-- SIM (R245): the three parts act independently; A is unchanged. -/
def Obligations.SetInterruptMasks : Prop :=
  ∀ (i : Instr) (s : State), encode i = [0x30] → ∃ t, exec i s = .next t ∧
    (s.regs.a.getLsbD 3 = true →
      t.m75 = s.regs.a.getLsbD 2 ∧ t.m65 = s.regs.a.getLsbD 1 ∧ t.m55 = s.regs.a.getLsbD 0) ∧
    (s.regs.a.getLsbD 3 = false → t.m75 = s.m75 ∧ t.m65 = s.m65 ∧ t.m55 = s.m55) ∧
    (s.regs.a.getLsbD 4 = true → t.i75 = false) ∧ (s.regs.a.getLsbD 4 = false → t.i75 = s.i75) ∧
    (s.regs.a.getLsbD 6 = true → t.sod = s.regs.a.getLsbD 7) ∧ (s.regs.a.getLsbD 6 = false → t.sod = s.sod) ∧
    t = { s with m75 := t.m75, m65 := t.m65, m55 := t.m55, i75 := t.i75, sod := t.sod }

/-- The ten undefined values of byte 1 are refused by name (30_encoding.md R90). -/
def Obligations.UndefinedOpcodesRefused : Prop :=
  ∀ (i : Instr) (b : Byte) (s : State), b ∈ undefinedOpcodes → encode i = [b] →
    exec i s = .refused (.undefinedOpcode b)

/-! ## The step -/

/-- A step runs the decoded instruction (00_scope.md R10): when it executes and the bytes at PC, in RAM or ROM, decode to a
well-formed instruction, the step is that instruction's exec with PC past its bytes, then the EI bookkeeping. Bytes at
device and absent addresses: StepFetchesAnyAddress. -/
def Obligations.StepRunsDecoded : Prop :=
  ∀ (s : State) (i : Instr) (rest : List Byte), executes s → i.wellFormed = true →
    decode [s.byteAt s.pc, s.byteAt (s.pc + 1), s.byteAt (s.pc + 2)] = .ok (i, rest) →
    (∀ k < (encode i).length, stored s (s.pc + BitVec.ofNat 16 k)) →
    step s = finishInstruction s.eiPending i
      (exec i { atBoundary s with pc := s.pc + BitVec.ofNat 16 (encode i).length })

/-- The EI bookkeeping (43 R241): after any instruction but EI and DI a pending enable becomes IE; after EI and after DI
the instruction's own state stands. -/
def Obligations.EnableAfterNextInstruction : Prop :=
  ∀ (s t u : State) (i : Instr), executes s → (atBoundary s).fetch = .ok (i, t) → exec i t = .next u →
    (s.eiPending = true → opcode i ≠ 0xFB → opcode i ≠ 0xF3 →
      step s = .next { u with ie := true, eiPending := false }) ∧
    (s.eiPending = false ∨ opcode i = 0xFB ∨ opcode i = 0xF3 → step s = .next u)

/-- The reset event (70 R280): it has priority over everything, and what it does not name keeps what it held. -/
def Obligations.ResetEventSetsState : Prop :=
  ∀ s : State, resetRequested s → step s = .next
    { s.takeSample with
      pc := 0x0000, ie := false, m75 := true, m65 := true, m55 := true, i75 := false, trapLatch := false,
      sod := false, halted := false, eiPending := false, ieAtTrapValid := false, prev75 := false, prevTrap := false }

/-- The state after reset holds the values of 10_state.md R35 that the rule states. (What the rule leaves unspecified is
the model's choice, log 1, and stands in no clause.) -/
def Obligations.ResetStateValues : Prop :=
  State.reset.pc = 0x0000 ∧
  [State.reset.m75, State.reset.m65, State.reset.m55] = [true, true, true] ∧
  [State.reset.ie, State.reset.i75, State.reset.trapLatch, State.reset.sod, State.reset.halted, State.reset.eiPending,
    State.reset.ieAtTrapValid, State.reset.prev75, State.reset.prevTrap] = List.replicate 9 false

/-- Edge latching (60 R253). -/
def Obligations.EdgesLatched : Prop :=
  ∀ s : State, let l := s.takeSample.env.lines
    ((atBoundary s).i75 = true ↔ s.i75 = true ∨ (l.r75 = true ∧ s.prev75 = false)) ∧
    ((atBoundary s).trapLatch = true ↔ s.trapLatch = true ∨ (l.trap = true ∧ s.prevTrap = false)) ∧
    (atBoundary s).prev75 = l.r75 ∧ (atBoundary s).prevTrap = l.trap

/-- Eligibility and priority (60 R255, R256), as one chain: TRAP, RST 7.5, RST 6.5, RST 5.5, INTR. -/
def Obligations.AcceptanceByPriority : Prop :=
  ∀ s : State, let l := s.env.lines
    let enabled := s.ie = true ∧ s.eiPending = false
    s.accepted =
      if s.trapLatch = true ∧ l.trap = true then some (.vectored .trap)
      else if s.i75 = true ∧ s.m75 = false ∧ enabled then some (.vectored .rst75)
      else if l.r65 = true ∧ s.m65 = false ∧ enabled then some (.vectored .rst65)
      else if l.r55 = true ∧ s.m55 = false ∧ enabled then some (.vectored .rst55)
      else if l.intr = true ∧ enabled then some .intr
      else none

/-- Entry for TRAP, RST 7.5, RST 6.5, RST 5.5 (60 R251, R257, R259): the vectors; IE, EI_PENDING and HALTED cleared; the
source's own latch cleared; TRAP keeps IE; PC alone is saved, on the stack. With EI_PENDING = 1 the spec leaves what TRAP keeps open
(93_implementation_defined.md U6 (c)): that it is then a draw is the model's choice (log 8; what a draw is: log 6). -/
def Obligations.VectoredEntry : Prop :=
  ∀ (s : State) (v : Vectored), ¬ resetRequested s → (atBoundary s).accepted = some (.vectored v) →
    let b := atBoundary s
    let drawn := if v = .trap ∧ b.eiPending = true then b.anyBit else (b.ie, b)
    step s = .next
      { (drawn.2.memWrite (b.sp - 1) (highByte b.pc)).memWrite (b.sp - 2) (lowByte b.pc) with
        sp := b.sp - 2
        pc := if v = .trap then 0x0024 else if v = .rst75 then 0x003C else if v = .rst65 then 0x0034 else 0x002C
        ie := false
        eiPending := false
        halted := false
        ieAtTrap := if v = .trap then drawn.1 else b.ieAtTrap
        ieAtTrapValid := if v = .trap then true else b.ieAtTrapValid
        trapLatch := if v = .trap then false else b.trapLatch
        i75 := if v = .rst75 then false else b.i75 }

/-- INTR entry (60 R258): IE, EI_PENDING and HALTED cleared, then the supplied RST n or CALL with PC not moved for its
bytes; anything else is refused. That the supplied bytes come from a queue in State is the model's choice (log 11). -/
def Obligations.IntrEntry : Prop :=
  ∀ s : State, ¬ resetRequested s → (atBoundary s).accepted = some .intr →
    let r := (atBoundary s).intaReply
    let c := { r.2 with ie := false, eiPending := false, halted := false }
    (∀ n : BitVec 3, r.1.op = op 3 n 7 → step s = .next (called c (BitVec.ofNat 16 (8 * n.toNat)))) ∧
    (r.1.op = 0xCD → step s = .next (called c (joinBytes r.1.byte3 r.1.byte2))) ∧
    ((∀ n : BitVec 3, r.1.op ≠ op 3 n 7) → r.1.op ≠ 0xCD → step s = .refused (.intaNotRstOrCall r.1.op))

/-- The halt state (43 R243): with no reset and no interrupt accepted nothing is fetched or executed, and the registers,
the flags, PC, SP and memory are held. -/
def Obligations.HaltHolds : Prop :=
  ∀ s : State, s.halted = true → ¬ resetRequested s → (atBoundary s).accepted = none →
    ∃ t, step s = .next t ∧ t.halted = true ∧ t.regs = s.regs ∧ t.flags = s.flags ∧ t.pc = s.pc ∧ t.sp = s.sp ∧
      t.mem = s.mem ∧ t.env.events = s.env.events

/-- A latched RST 7.5 request stays until RST 7.5 is accepted, SIM executes with A[4] = 1, or reset; a latched TRAP stays
until TRAP is accepted or reset (60 R253). -/
def Obligations.RequestsStayLatched : Prop :=
  ∀ s t : State, step s = .next t →
    (s.i75 = true → t.i75 = false →
      resetRequested s ∨ (atBoundary s).accepted = some (.vectored .rst75) ∨
      (executes s ∧ ((atBoundary s).memRead s.pc).1 = 0x30 ∧ s.regs.a.getLsbD 4 = true)) ∧
    (s.trapLatch = true → t.trapLatch = false →
      resetRequested s ∨ (atBoundary s).accepted = some (.vectored .trap))

/-- The EI delay (43 R240, 60 R255): EI itself leaves IE as it was, and at the boundary right after it no maskable
interrupt is accepted. For an EI executed with EI_PENDING = 1 (EI; EI) this is the model's choice (log 9, unsafe):
93_implementation_defined.md U6 (a) also allows an acceptance there. -/
def Obligations.NoMaskableRightAfterEi : Prop :=
  ∀ s t : State, executes s → (atBoundary s).fetch = .ok (.ei, t) →
    ∃ u, step s = .next u ∧ u.ie = s.ie ∧ u.eiPending = true ∧
      ∀ src, (atBoundary u).accepted = some src → src = .vectored .trap

/-- With IE = 0 and no EI pending, one step leaves IE = 0, whatever it does: interrupts stay disabled until an EI has been
followed by an instruction (10_state.md R30). -/
def Obligations.DisabledUntilEi : Prop :=
  ∀ s t : State, s.ie = false → s.eiPending = false → step s = .next t → t.ie = false

/-- The masks and SOD change only by reset or by a step that executes SIM (10_state.md R30, R32). -/
def Obligations.MasksOnlyBySimOrReset : Prop :=
  ∀ s t : State, step s = .next t →
    (t.m75 = s.m75 ∧ t.m65 = s.m65 ∧ t.m55 = s.m55 ∧ t.sod = s.sod) ∨ resetRequested s ∨
    (executes s ∧ ((atBoundary s).memRead s.pc).1 = 0x30)

/-- Placing a row's word makes the very next step run it, in every state with canonical memory: how an instruction is placed
from outside the machine is the model's choice (log 2). -/
def Obligations.PlacedWordRunsNext : Prop :=
  ∀ (s : State) (nbits w : Nat) (i : Instr), s.mem.wf = true → decodeTableWord nbits w = some i →
    let q := s.withFetchWord nbits w
    step q = finishInstruction q.eiPending i
      (exec i { atBoundary q with pc := s.pc + BitVec.ofNat 16 (encode i).length })

/-! ## Invariants and whole-machine rules -/

/-- Every step keeps the invariant: canonical memory, remembered levels, no TRAP left waiting with its line high. -/
def Obligations.StepKeepsInvariant : Prop :=
  ∀ s t : State, s.Inv → step s = .next t → t.Inv

/-- The state after reset has the invariant. -/
def Obligations.ResetHasInvariant : Prop := State.reset.Inv

/-- No step changes any byte that is not RAM (20_memory.md R51: a write to ROM or to an absent address changes nothing), nor
the memory map. That the map never changes, and that the byte of an address which is not RAM is the memory list's byte, are
the model's choice (log 3). -/
def Obligations.OnlyRamChanges : Prop :=
  ∀ s t : State, step s = .next t → t.map = s.map ∧ ∀ a : Word, s.kindAt a ≠ .ram → t.byteAt a = s.byteAt a

/-- What the environment has received only grows, at its end: the order is program order (43 R238, 20_memory.md R62). -/
def Obligations.OutputOnlyGrows : Prop :=
  ∀ s t : State, step s = .next t → ∃ es, t.env.events = s.env.events ++ es

/-- Every defined instruction completes in every state, and an undefined value in none (60 R250, 30_encoding.md R90). -/
def Obligations.DefinedInstructionsComplete : Prop :=
  ∀ (i : Instr) (s : State), (i.wellFormed = true ↔ ∃ t, exec i s = .next t) ∧
    (i.wellFormed = true ↔ ∀ b ∈ undefinedOpcodes, encode i ≠ [b])

/-! ## Frames -/

/-- The flag classes (10_state.md R27, 00_scope.md R12): an instruction outside class `*` leaves the flags its class does
not name. -/
def Obligations.FlagsByClass : Prop :=
  ∀ (i : Instr) (s t : State), exec i s = .next t → ¬ writesAllFlags (opcode i) →
    (writesAllButCarry (opcode i) → t.flags.cy = s.flags.cy) ∧
    (writesCarryOnly (opcode i) → t.flags = { s.flags with cy := t.flags.cy }) ∧
    (¬ writesAllButCarry (opcode i) → ¬ writesCarryOnly (opcode i) → t.flags = s.flags)

/-- Every byte of memory but those the instruction stores to reads as before. -/
def Obligations.MemoryFrame : Prop :=
  ∀ (i : Instr) (s t : State) (a : Word), exec i s = .next t → a ∉ storesTo i s → t.byteAt a = s.byteAt a

/-- Every general register but the destination is unchanged; SP changes only by the instructions of 10_state.md R24; PC
(already past the instruction) only by a control transfer. -/
def Obligations.RegisterFrame : Prop :=
  ∀ (i : Instr) (s t : State), exec i s = .next t →
    (∀ r : Reg, r ∉ destinations (opcode i) → t.regs.get r = s.regs.get r) ∧
    (¬ mayWriteSp (opcode i) → t.sp = s.sp) ∧ (¬ mayTransfer (opcode i) → t.pc = s.pc)

/-- No instruction but DI, EI, HLT, RIM and SIM changes the interrupt, serial or hidden state (10_state.md R30 to R33). -/
def Obligations.InterruptStateFrame : Prop :=
  ∀ (i : Instr) (s t : State), exec i s = .next t → opcode i ∉ [0xF3, 0xFB, 0x76, 0x20, 0x30] →
    controlBits t = controlBits s ∧ t.env.lines = s.env.lines ∧ t.env.samples = s.env.samples

/-! ## Properties of pairs of operations -/

/-- The subtraction of 41 R143, and the hardware's way of doing it: a + (255 - b) + (1 - bin); CY is the complement of that
addition's carry out of bit 7, AC its carry out of bit 3. -/
def Obligations.SubtractIsComplementAdd : Prop :=
  ∀ (a b : Byte) (bin : Bool),
    sub8 a b bin = Spec.sub a b bin ∧
    (sub8 a b bin).1 = (add8 a (255 - b) (!bin)).1 ∧ (sub8 a b bin).2.cy = !(add8 a (255 - b) (!bin)).2.cy ∧
    (sub8 a b bin).2.ac = (add8 a (255 - b) (!bin)).2.ac

/-- DAA after an add with carry of two packed-decimal bytes gives their decimal sum (41 R155). -/
def Obligations.DaaGivesDecimalSum : Prop :=
  ∀ (s : State) (y : Byte), isBcd s.regs.a → isBcd y →
    let sum := bcdValue s.regs.a + bcdValue y + s.flags.cy.toNat
    ∃ t u, exec (.aci y) s = .next t ∧ exec .daa t = .next u ∧
      isBcd u.regs.a ∧ bcdValue u.regs.a = sum % 100 ∧ (u.flags.cy = true ↔ 100 ≤ sum)

/-- A memory write is read back where it was made, and nowhere else, when RAM stands there; elsewhere memory does not
change, and a device alone receives it (20_memory.md R51, R52). -/
def Obligations.WriteThenRead : Prop :=
  ∀ (s : State) (a b : Word) (v : Byte), s.mem.wf = true →
    (s.kindAt a = .ram → (s.memWrite a v).byteAt b = if b = a then v else s.byteAt b) ∧
    (s.kindAt a ≠ .ram → (s.memWrite a v).mem = s.mem) ∧
    (s.kindAt a = .device → (s.memWrite a v).env.events = s.env.events ++ [.deviceWrite a v]) ∧
    (s.kindAt a ≠ .device → (s.memWrite a v).env = s.env)

/-- RET after CALL, after any RST and after any of the four fixed-vector interrupt entries resumes where it left, with SP,
registers and flags as they were, when the stack is RAM (42 R210, R219; 60 R261). -/
def Obligations.ReturnResumes : Prop :=
  ∀ s : State, s.mem.wf = true → stackInRam s →
    let resumes := fun t => ∃ u, exec .ret t = .next u ∧ u.pc = s.pc ∧ u.sp = s.sp ∧ u.regs = s.regs ∧ u.flags = s.flags
    (∀ adr : Word, ∃ t, exec (.call adr) s = .next t ∧ resumes t) ∧
    (∀ (n : BitVec 3) (i : Instr), encode i = [op 3 n 7] → ∃ t, exec i s = .next t ∧ resumes t) ∧
    (∀ v : Vectored, ¬ resetRequested s → (atBoundary s).accepted = some (.vectored v) →
      ∃ t, step s = .next t ∧ resumes t)

/-- POP PSW after PUSH PSW restores A, the five flags and SP, whatever happened to the registers and the flags in between
and whatever the three undefined bits were drawn as (43 R232, R234; 10_state.md R29). -/
def Obligations.PswRestored : Prop :=
  ∀ (s : State) (r : Regs) (f : Flags), s.mem.wf = true → stackInRam s →
    ∃ t u, exec .pushPSW s = .next t ∧ exec .popPSW { t with regs := r, flags := f } = .next u ∧
      u.regs = { r with a := s.regs.a } ∧ u.flags = s.flags ∧ u.sp = s.sp

/-- A store to RAM is seen by the next fetch of that address (20_memory.md R63): any write, and the byte that each storing
form stores at each of its addresses (STAX, STA, MOV M,r, MVI M, INR M, DCR M, SHLD, PUSH, CALL, a conditional call taken,
RST, XTHL). -/
def Obligations.StoreSeenByFetch : Prop :=
  ∀ s : State, s.mem.wf = true → let hl := joinBytes s.regs.h s.regs.l
    (∀ (a : Word) (v : Byte), s.kindAt a = .ram → ({ s.memWrite a v with pc := a }).fetch8.1 = v) ∧
    ∀ (i : Instr) (lo hi : Byte), let a := joinBytes hi lo
      let pushesPc := storeSeen s i (s.sp - 1) (highByte s.pc) ∧ storeSeen s i (s.sp - 2) (lowByte s.pc)
      (encode i = [0x02] → storeSeen s i (joinBytes s.regs.b s.regs.c) s.regs.a) ∧
      (encode i = [0x12] → storeSeen s i (joinBytes s.regs.d s.regs.e) s.regs.a) ∧
      (encode i = [0x32, lo, hi] → storeSeen s i a s.regs.a) ∧
      (∀ r : Reg, encode i = [op 1 6 r.code] → storeSeen s i hl (s.regs.get r)) ∧
      (encode i = [0x36, lo] → storeSeen s i hl lo) ∧
      (encode i = [0x34] → storeSeen s i hl (s.byteAt hl + 1)) ∧
      (encode i = [0x35] → storeSeen s i hl (s.byteAt hl - 1)) ∧
      (encode i = [0x22, lo, hi] → storeSeen s i a s.regs.l ∧ storeSeen s i (a + 1) s.regs.h) ∧
      (∀ p : Pair, p ≠ .sp → encode i = [opPair 3 p.code 5] →
        storeSeen s i (s.sp - 1) (highByte (pairValue s p)) ∧ storeSeen s i (s.sp - 2) (lowByte (pairValue s p))) ∧
      (encode i = [0xF5] → storeSeen s i (s.sp - 1) s.regs.a ∧ ∃ f : Byte,
        f.getLsbD 7 = s.flags.s ∧ f.getLsbD 6 = s.flags.z ∧ f.getLsbD 4 = s.flags.ac ∧ f.getLsbD 2 = s.flags.p ∧
        f.getLsbD 0 = s.flags.cy ∧ storeSeen s i (s.sp - 2) f) ∧
      (encode i = [0xCD, lo, hi] → pushesPc) ∧
      (∀ ccc : BitVec 3, encode i = [op 3 ccc 4, lo, hi] → conditionHolds s.flags ccc → pushesPc) ∧
      (∀ n : BitVec 3, encode i = [op 3 n 7] → pushesPc) ∧
      (encode i = [0xE3] → storeSeen s i (s.sp + 1) s.regs.h ∧ storeSeen s i s.sp s.regs.l)

/-- Instruction bytes at any addresses (00_scope.md R9, R10; 20_memory.md R51): each byte is read by Fetch8, at a device with
an answer and an event, at an absent address as a draw, and the step runs the instruction that the bytes read in turn encode
(queues, events and draws: logs 5 and 6; devices: log 12). It is refused when byte 2, else byte 3, of a conditional jump or
call not taken is at a device address (42 R220 (f), U8: log 12). -/
def Obligations.StepFetchesAnyAddress : Prop :=
  (∀ s : State,
    (stored s s.pc → s.fetch8 = (s.byteAt s.pc, { s with pc := s.pc + 1 })) ∧
    (s.kindAt s.pc = .device → s.fetch8 = (s.answer.1,
      { s with
        pc := s.pc + 1
        env := { s.answer.2.env with events := s.env.events ++ [.deviceRead s.pc s.answer.1] } })) ∧
    (s.kindAt s.pc = .absent → s.fetch8 = (s.absentByte.1, { s.absentByte.2 with pc := s.pc + 1 }))) ∧
  ∀ s : State, executes s →
    let one := (atBoundary s).fetch8
    let two := one.2.fetch8
    let three := two.2.fetch8
    let unused := operandsUnused s.flags one.1
    let device2 := s.kindAt (s.pc + 1) = .device
    let device3 := s.kindAt (s.pc + 2) = .device
    (∀ i : Instr,
      (encode i = [one.1] → step s = finishInstruction s.eiPending i (exec i one.2)) ∧
      (encode i = [one.1, two.1] → step s = finishInstruction s.eiPending i (exec i two.2)) ∧
      (encode i = [one.1, two.1, three.1] → ¬ (unused ∧ (device2 ∨ device3)) →
        step s = finishInstruction s.eiPending i (exec i three.2))) ∧
    (unused → device2 → step s = .refused (.unpromisedOperandRead (s.pc + 1))) ∧
    (unused → ¬ device2 → device3 → step s = .refused (.unpromisedOperandRead (s.pc + 2)))
end

