-- ==== Sys2Proof/Laws/State.lean ====
section
/-! SUPPORT. One lemma per field per update of the state, each true by rfl, and the reads of an updated register file. -/

namespace Sys2Proof.Machine

/-! ### PC -/

@[simp] theorem setPc_regs (v : Word) (s : State) : (s.setPc v).regs = s.regs := rfl
@[simp] theorem setPc_flags (v : Word) (s : State) : (s.setPc v).flags = s.flags := rfl
@[simp] theorem setPc_sp (v : Word) (s : State) : (s.setPc v).sp = s.sp := rfl
@[simp] theorem setPc_pc (v : Word) (s : State) : (s.setPc v).pc = v := rfl
@[simp] theorem setPc_ie (v : Word) (s : State) : (s.setPc v).ie = s.ie := rfl
@[simp] theorem setPc_m75 (v : Word) (s : State) : (s.setPc v).m75 = s.m75 := rfl
@[simp] theorem setPc_m65 (v : Word) (s : State) : (s.setPc v).m65 = s.m65 := rfl
@[simp] theorem setPc_m55 (v : Word) (s : State) : (s.setPc v).m55 = s.m55 := rfl
@[simp] theorem setPc_i75 (v : Word) (s : State) : (s.setPc v).i75 = s.i75 := rfl
@[simp] theorem setPc_trapLatch (v : Word) (s : State) : (s.setPc v).trapLatch = s.trapLatch := rfl
@[simp] theorem setPc_sod (v : Word) (s : State) : (s.setPc v).sod = s.sod := rfl
@[simp] theorem setPc_halted (v : Word) (s : State) : (s.setPc v).halted = s.halted := rfl
@[simp] theorem setPc_eiPending (v : Word) (s : State) : (s.setPc v).eiPending = s.eiPending := rfl
@[simp] theorem setPc_ieAtTrap (v : Word) (s : State) : (s.setPc v).ieAtTrap = s.ieAtTrap := rfl
@[simp] theorem setPc_ieAtTrapValid (v : Word) (s : State) : (s.setPc v).ieAtTrapValid = s.ieAtTrapValid := rfl
@[simp] theorem setPc_prev75 (v : Word) (s : State) : (s.setPc v).prev75 = s.prev75 := rfl
@[simp] theorem setPc_prevTrap (v : Word) (s : State) : (s.setPc v).prevTrap = s.prevTrap := rfl
@[simp] theorem setPc_mem (v : Word) (s : State) : (s.setPc v).mem = s.mem := rfl
@[simp] theorem setPc_map (v : Word) (s : State) : (s.setPc v).map = s.map := rfl
@[simp] theorem setPc_env (v : Word) (s : State) : (s.setPc v).env = s.env := rfl

/-! ### SP -/

@[simp] theorem setSp_regs (v : Word) (s : State) : (s.setSp v).regs = s.regs := rfl
@[simp] theorem setSp_flags (v : Word) (s : State) : (s.setSp v).flags = s.flags := rfl
@[simp] theorem setSp_sp (v : Word) (s : State) : (s.setSp v).sp = v := rfl
@[simp] theorem setSp_pc (v : Word) (s : State) : (s.setSp v).pc = s.pc := rfl
@[simp] theorem setSp_ie (v : Word) (s : State) : (s.setSp v).ie = s.ie := rfl
@[simp] theorem setSp_m75 (v : Word) (s : State) : (s.setSp v).m75 = s.m75 := rfl
@[simp] theorem setSp_m65 (v : Word) (s : State) : (s.setSp v).m65 = s.m65 := rfl
@[simp] theorem setSp_m55 (v : Word) (s : State) : (s.setSp v).m55 = s.m55 := rfl
@[simp] theorem setSp_i75 (v : Word) (s : State) : (s.setSp v).i75 = s.i75 := rfl
@[simp] theorem setSp_trapLatch (v : Word) (s : State) : (s.setSp v).trapLatch = s.trapLatch := rfl
@[simp] theorem setSp_sod (v : Word) (s : State) : (s.setSp v).sod = s.sod := rfl
@[simp] theorem setSp_halted (v : Word) (s : State) : (s.setSp v).halted = s.halted := rfl
@[simp] theorem setSp_eiPending (v : Word) (s : State) : (s.setSp v).eiPending = s.eiPending := rfl
@[simp] theorem setSp_ieAtTrap (v : Word) (s : State) : (s.setSp v).ieAtTrap = s.ieAtTrap := rfl
@[simp] theorem setSp_ieAtTrapValid (v : Word) (s : State) : (s.setSp v).ieAtTrapValid = s.ieAtTrapValid := rfl
@[simp] theorem setSp_prev75 (v : Word) (s : State) : (s.setSp v).prev75 = s.prev75 := rfl
@[simp] theorem setSp_prevTrap (v : Word) (s : State) : (s.setSp v).prevTrap = s.prevTrap := rfl
@[simp] theorem setSp_mem (v : Word) (s : State) : (s.setSp v).mem = s.mem := rfl
@[simp] theorem setSp_map (v : Word) (s : State) : (s.setSp v).map = s.map := rfl
@[simp] theorem setSp_env (v : Word) (s : State) : (s.setSp v).env = s.env := rfl

/-! ### one register -/

@[simp] theorem setReg_regs (q : Reg) (v : Byte) (s : State) : (s.setReg q v).regs = s.regs.set q v := rfl
@[simp] theorem setReg_flags (q : Reg) (v : Byte) (s : State) : (s.setReg q v).flags = s.flags := rfl
@[simp] theorem setReg_sp (q : Reg) (v : Byte) (s : State) : (s.setReg q v).sp = s.sp := rfl
@[simp] theorem setReg_pc (q : Reg) (v : Byte) (s : State) : (s.setReg q v).pc = s.pc := rfl
@[simp] theorem setReg_ie (q : Reg) (v : Byte) (s : State) : (s.setReg q v).ie = s.ie := rfl
@[simp] theorem setReg_m75 (q : Reg) (v : Byte) (s : State) : (s.setReg q v).m75 = s.m75 := rfl
@[simp] theorem setReg_m65 (q : Reg) (v : Byte) (s : State) : (s.setReg q v).m65 = s.m65 := rfl
@[simp] theorem setReg_m55 (q : Reg) (v : Byte) (s : State) : (s.setReg q v).m55 = s.m55 := rfl
@[simp] theorem setReg_i75 (q : Reg) (v : Byte) (s : State) : (s.setReg q v).i75 = s.i75 := rfl
@[simp] theorem setReg_trapLatch (q : Reg) (v : Byte) (s : State) : (s.setReg q v).trapLatch = s.trapLatch := rfl
@[simp] theorem setReg_sod (q : Reg) (v : Byte) (s : State) : (s.setReg q v).sod = s.sod := rfl
@[simp] theorem setReg_halted (q : Reg) (v : Byte) (s : State) : (s.setReg q v).halted = s.halted := rfl
@[simp] theorem setReg_eiPending (q : Reg) (v : Byte) (s : State) : (s.setReg q v).eiPending = s.eiPending := rfl
@[simp] theorem setReg_ieAtTrap (q : Reg) (v : Byte) (s : State) : (s.setReg q v).ieAtTrap = s.ieAtTrap := rfl
@[simp] theorem setReg_ieAtTrapValid (q : Reg) (v : Byte) (s : State) : (s.setReg q v).ieAtTrapValid = s.ieAtTrapValid := rfl
@[simp] theorem setReg_prev75 (q : Reg) (v : Byte) (s : State) : (s.setReg q v).prev75 = s.prev75 := rfl
@[simp] theorem setReg_prevTrap (q : Reg) (v : Byte) (s : State) : (s.setReg q v).prevTrap = s.prevTrap := rfl
@[simp] theorem setReg_mem (q : Reg) (v : Byte) (s : State) : (s.setReg q v).mem = s.mem := rfl
@[simp] theorem setReg_map (q : Reg) (v : Byte) (s : State) : (s.setReg q v).map = s.map := rfl
@[simp] theorem setReg_env (q : Reg) (v : Byte) (s : State) : (s.setReg q v).env = s.env := rfl

/-! ### CY -/

@[simp] theorem setCarry_regs (v : Bool) (s : State) : (s.setCarry v).regs = s.regs := rfl
@[simp] theorem setCarry_flags (v : Bool) (s : State) : (s.setCarry v).flags = { s.flags with cy := v } := rfl
@[simp] theorem setCarry_sp (v : Bool) (s : State) : (s.setCarry v).sp = s.sp := rfl
@[simp] theorem setCarry_pc (v : Bool) (s : State) : (s.setCarry v).pc = s.pc := rfl
@[simp] theorem setCarry_ie (v : Bool) (s : State) : (s.setCarry v).ie = s.ie := rfl
@[simp] theorem setCarry_m75 (v : Bool) (s : State) : (s.setCarry v).m75 = s.m75 := rfl
@[simp] theorem setCarry_m65 (v : Bool) (s : State) : (s.setCarry v).m65 = s.m65 := rfl
@[simp] theorem setCarry_m55 (v : Bool) (s : State) : (s.setCarry v).m55 = s.m55 := rfl
@[simp] theorem setCarry_i75 (v : Bool) (s : State) : (s.setCarry v).i75 = s.i75 := rfl
@[simp] theorem setCarry_trapLatch (v : Bool) (s : State) : (s.setCarry v).trapLatch = s.trapLatch := rfl
@[simp] theorem setCarry_sod (v : Bool) (s : State) : (s.setCarry v).sod = s.sod := rfl
@[simp] theorem setCarry_halted (v : Bool) (s : State) : (s.setCarry v).halted = s.halted := rfl
@[simp] theorem setCarry_eiPending (v : Bool) (s : State) : (s.setCarry v).eiPending = s.eiPending := rfl
@[simp] theorem setCarry_ieAtTrap (v : Bool) (s : State) : (s.setCarry v).ieAtTrap = s.ieAtTrap := rfl
@[simp] theorem setCarry_ieAtTrapValid (v : Bool) (s : State) : (s.setCarry v).ieAtTrapValid = s.ieAtTrapValid := rfl
@[simp] theorem setCarry_prev75 (v : Bool) (s : State) : (s.setCarry v).prev75 = s.prev75 := rfl
@[simp] theorem setCarry_prevTrap (v : Bool) (s : State) : (s.setCarry v).prevTrap = s.prevTrap := rfl
@[simp] theorem setCarry_mem (v : Bool) (s : State) : (s.setCarry v).mem = s.mem := rfl
@[simp] theorem setCarry_map (v : Bool) (s : State) : (s.setCarry v).map = s.map := rfl
@[simp] theorem setCarry_env (v : Bool) (s : State) : (s.setCarry v).env = s.env := rfl

/-! ### A and the flags -/

@[simp] theorem setResult_regs (r : Byte × Flags) (s : State) : (s.setResult r).regs = s.regs.set .a r.1 := rfl
@[simp] theorem setResult_flags (r : Byte × Flags) (s : State) : (s.setResult r).flags = r.2 := rfl
@[simp] theorem setResult_sp (r : Byte × Flags) (s : State) : (s.setResult r).sp = s.sp := rfl
@[simp] theorem setResult_pc (r : Byte × Flags) (s : State) : (s.setResult r).pc = s.pc := rfl
@[simp] theorem setResult_ie (r : Byte × Flags) (s : State) : (s.setResult r).ie = s.ie := rfl
@[simp] theorem setResult_m75 (r : Byte × Flags) (s : State) : (s.setResult r).m75 = s.m75 := rfl
@[simp] theorem setResult_m65 (r : Byte × Flags) (s : State) : (s.setResult r).m65 = s.m65 := rfl
@[simp] theorem setResult_m55 (r : Byte × Flags) (s : State) : (s.setResult r).m55 = s.m55 := rfl
@[simp] theorem setResult_i75 (r : Byte × Flags) (s : State) : (s.setResult r).i75 = s.i75 := rfl
@[simp] theorem setResult_trapLatch (r : Byte × Flags) (s : State) : (s.setResult r).trapLatch = s.trapLatch := rfl
@[simp] theorem setResult_sod (r : Byte × Flags) (s : State) : (s.setResult r).sod = s.sod := rfl
@[simp] theorem setResult_halted (r : Byte × Flags) (s : State) : (s.setResult r).halted = s.halted := rfl
@[simp] theorem setResult_eiPending (r : Byte × Flags) (s : State) : (s.setResult r).eiPending = s.eiPending := rfl
@[simp] theorem setResult_ieAtTrap (r : Byte × Flags) (s : State) : (s.setResult r).ieAtTrap = s.ieAtTrap := rfl
@[simp] theorem setResult_ieAtTrapValid (r : Byte × Flags) (s : State) : (s.setResult r).ieAtTrapValid = s.ieAtTrapValid := rfl
@[simp] theorem setResult_prev75 (r : Byte × Flags) (s : State) : (s.setResult r).prev75 = s.prev75 := rfl
@[simp] theorem setResult_prevTrap (r : Byte × Flags) (s : State) : (s.setResult r).prevTrap = s.prevTrap := rfl
@[simp] theorem setResult_mem (r : Byte × Flags) (s : State) : (s.setResult r).mem = s.mem := rfl
@[simp] theorem setResult_map (r : Byte × Flags) (s : State) : (s.setResult r).map = s.map := rfl
@[simp] theorem setResult_env (r : Byte × Flags) (s : State) : (s.setResult r).env = s.env := rfl

/-! ### the flags of a compare -/

@[simp] theorem compareA_regs (v : Byte) (s : State) : (s.compareA v).regs = s.regs := rfl
@[simp] theorem compareA_flags (v : Byte) (s : State) : (s.compareA v).flags = (sub8 s.regs.a v false).2 := rfl
@[simp] theorem compareA_sp (v : Byte) (s : State) : (s.compareA v).sp = s.sp := rfl
@[simp] theorem compareA_pc (v : Byte) (s : State) : (s.compareA v).pc = s.pc := rfl
@[simp] theorem compareA_ie (v : Byte) (s : State) : (s.compareA v).ie = s.ie := rfl
@[simp] theorem compareA_m75 (v : Byte) (s : State) : (s.compareA v).m75 = s.m75 := rfl
@[simp] theorem compareA_m65 (v : Byte) (s : State) : (s.compareA v).m65 = s.m65 := rfl
@[simp] theorem compareA_m55 (v : Byte) (s : State) : (s.compareA v).m55 = s.m55 := rfl
@[simp] theorem compareA_i75 (v : Byte) (s : State) : (s.compareA v).i75 = s.i75 := rfl
@[simp] theorem compareA_trapLatch (v : Byte) (s : State) : (s.compareA v).trapLatch = s.trapLatch := rfl
@[simp] theorem compareA_sod (v : Byte) (s : State) : (s.compareA v).sod = s.sod := rfl
@[simp] theorem compareA_halted (v : Byte) (s : State) : (s.compareA v).halted = s.halted := rfl
@[simp] theorem compareA_eiPending (v : Byte) (s : State) : (s.compareA v).eiPending = s.eiPending := rfl
@[simp] theorem compareA_ieAtTrap (v : Byte) (s : State) : (s.compareA v).ieAtTrap = s.ieAtTrap := rfl
@[simp] theorem compareA_ieAtTrapValid (v : Byte) (s : State) : (s.compareA v).ieAtTrapValid = s.ieAtTrapValid := rfl
@[simp] theorem compareA_prev75 (v : Byte) (s : State) : (s.compareA v).prev75 = s.prev75 := rfl
@[simp] theorem compareA_prevTrap (v : Byte) (s : State) : (s.compareA v).prevTrap = s.prevTrap := rfl
@[simp] theorem compareA_mem (v : Byte) (s : State) : (s.compareA v).mem = s.mem := rfl
@[simp] theorem compareA_map (v : Byte) (s : State) : (s.compareA v).map = s.map := rfl
@[simp] theorem compareA_env (v : Byte) (s : State) : (s.compareA v).env = s.env := rfl

/-! ### an event -/

@[simp] theorem record_regs (e : BusEvent) (s : State) : (s.record e).regs = s.regs := rfl
@[simp] theorem record_flags (e : BusEvent) (s : State) : (s.record e).flags = s.flags := rfl
@[simp] theorem record_sp (e : BusEvent) (s : State) : (s.record e).sp = s.sp := rfl
@[simp] theorem record_pc (e : BusEvent) (s : State) : (s.record e).pc = s.pc := rfl
@[simp] theorem record_ie (e : BusEvent) (s : State) : (s.record e).ie = s.ie := rfl
@[simp] theorem record_m75 (e : BusEvent) (s : State) : (s.record e).m75 = s.m75 := rfl
@[simp] theorem record_m65 (e : BusEvent) (s : State) : (s.record e).m65 = s.m65 := rfl
@[simp] theorem record_m55 (e : BusEvent) (s : State) : (s.record e).m55 = s.m55 := rfl
@[simp] theorem record_i75 (e : BusEvent) (s : State) : (s.record e).i75 = s.i75 := rfl
@[simp] theorem record_trapLatch (e : BusEvent) (s : State) : (s.record e).trapLatch = s.trapLatch := rfl
@[simp] theorem record_sod (e : BusEvent) (s : State) : (s.record e).sod = s.sod := rfl
@[simp] theorem record_halted (e : BusEvent) (s : State) : (s.record e).halted = s.halted := rfl
@[simp] theorem record_eiPending (e : BusEvent) (s : State) : (s.record e).eiPending = s.eiPending := rfl
@[simp] theorem record_ieAtTrap (e : BusEvent) (s : State) : (s.record e).ieAtTrap = s.ieAtTrap := rfl
@[simp] theorem record_ieAtTrapValid (e : BusEvent) (s : State) : (s.record e).ieAtTrapValid = s.ieAtTrapValid := rfl
@[simp] theorem record_prev75 (e : BusEvent) (s : State) : (s.record e).prev75 = s.prev75 := rfl
@[simp] theorem record_prevTrap (e : BusEvent) (s : State) : (s.record e).prevTrap = s.prevTrap := rfl
@[simp] theorem record_mem (e : BusEvent) (s : State) : (s.record e).mem = s.mem := rfl
@[simp] theorem record_map (e : BusEvent) (s : State) : (s.record e).map = s.map := rfl
@[simp] theorem record_env (e : BusEvent) (s : State) : (s.record e).env = { s.env with events := s.env.events ++ [e] } := rfl

/-! ### what every interrupt entry clears -/

@[simp] theorem clearForEntry_regs (s : State) : (s.clearForEntry).regs = s.regs := rfl
@[simp] theorem clearForEntry_flags (s : State) : (s.clearForEntry).flags = s.flags := rfl
@[simp] theorem clearForEntry_sp (s : State) : (s.clearForEntry).sp = s.sp := rfl
@[simp] theorem clearForEntry_pc (s : State) : (s.clearForEntry).pc = s.pc := rfl
@[simp] theorem clearForEntry_ie (s : State) : (s.clearForEntry).ie = false := rfl
@[simp] theorem clearForEntry_m75 (s : State) : (s.clearForEntry).m75 = s.m75 := rfl
@[simp] theorem clearForEntry_m65 (s : State) : (s.clearForEntry).m65 = s.m65 := rfl
@[simp] theorem clearForEntry_m55 (s : State) : (s.clearForEntry).m55 = s.m55 := rfl
@[simp] theorem clearForEntry_i75 (s : State) : (s.clearForEntry).i75 = s.i75 := rfl
@[simp] theorem clearForEntry_trapLatch (s : State) : (s.clearForEntry).trapLatch = s.trapLatch := rfl
@[simp] theorem clearForEntry_sod (s : State) : (s.clearForEntry).sod = s.sod := rfl
@[simp] theorem clearForEntry_halted (s : State) : (s.clearForEntry).halted = false := rfl
@[simp] theorem clearForEntry_eiPending (s : State) : (s.clearForEntry).eiPending = false := rfl
@[simp] theorem clearForEntry_ieAtTrap (s : State) : (s.clearForEntry).ieAtTrap = s.ieAtTrap := rfl
@[simp] theorem clearForEntry_ieAtTrapValid (s : State) : (s.clearForEntry).ieAtTrapValid = s.ieAtTrapValid := rfl
@[simp] theorem clearForEntry_prev75 (s : State) : (s.clearForEntry).prev75 = s.prev75 := rfl
@[simp] theorem clearForEntry_prevTrap (s : State) : (s.clearForEntry).prevTrap = s.prevTrap := rfl
@[simp] theorem clearForEntry_mem (s : State) : (s.clearForEntry).mem = s.mem := rfl
@[simp] theorem clearForEntry_map (s : State) : (s.clearForEntry).map = s.map := rfl
@[simp] theorem clearForEntry_env (s : State) : (s.clearForEntry).env = s.env := rfl

/-! ### edge latching -/

@[simp] theorem latchEdges_regs (s : State) : (s.latchEdges).regs = s.regs := rfl
@[simp] theorem latchEdges_flags (s : State) : (s.latchEdges).flags = s.flags := rfl
@[simp] theorem latchEdges_sp (s : State) : (s.latchEdges).sp = s.sp := rfl
@[simp] theorem latchEdges_pc (s : State) : (s.latchEdges).pc = s.pc := rfl
@[simp] theorem latchEdges_ie (s : State) : (s.latchEdges).ie = s.ie := rfl
@[simp] theorem latchEdges_m75 (s : State) : (s.latchEdges).m75 = s.m75 := rfl
@[simp] theorem latchEdges_m65 (s : State) : (s.latchEdges).m65 = s.m65 := rfl
@[simp] theorem latchEdges_m55 (s : State) : (s.latchEdges).m55 = s.m55 := rfl
@[simp] theorem latchEdges_i75 (s : State) : (s.latchEdges).i75 = (s.i75 || (s.env.lines.r75 && !s.prev75)) := rfl
@[simp] theorem latchEdges_trapLatch (s : State) : (s.latchEdges).trapLatch = (s.trapLatch || (s.env.lines.trap && !s.prevTrap)) := rfl
@[simp] theorem latchEdges_sod (s : State) : (s.latchEdges).sod = s.sod := rfl
@[simp] theorem latchEdges_halted (s : State) : (s.latchEdges).halted = s.halted := rfl
@[simp] theorem latchEdges_eiPending (s : State) : (s.latchEdges).eiPending = s.eiPending := rfl
@[simp] theorem latchEdges_ieAtTrap (s : State) : (s.latchEdges).ieAtTrap = s.ieAtTrap := rfl
@[simp] theorem latchEdges_ieAtTrapValid (s : State) : (s.latchEdges).ieAtTrapValid = s.ieAtTrapValid := rfl
@[simp] theorem latchEdges_prev75 (s : State) : (s.latchEdges).prev75 = s.env.lines.r75 := rfl
@[simp] theorem latchEdges_prevTrap (s : State) : (s.latchEdges).prevTrap = s.env.lines.trap := rfl
@[simp] theorem latchEdges_mem (s : State) : (s.latchEdges).mem = s.mem := rfl
@[simp] theorem latchEdges_map (s : State) : (s.latchEdges).map = s.map := rfl
@[simp] theorem latchEdges_env (s : State) : (s.latchEdges).env = s.env := rfl

/-! ### the reset event -/

@[simp] theorem resetEvent_regs (s : State) : (s.resetEvent).regs = s.regs := rfl
@[simp] theorem resetEvent_flags (s : State) : (s.resetEvent).flags = s.flags := rfl
@[simp] theorem resetEvent_sp (s : State) : (s.resetEvent).sp = s.sp := rfl
@[simp] theorem resetEvent_pc (s : State) : (s.resetEvent).pc = 0x0000 := rfl
@[simp] theorem resetEvent_ie (s : State) : (s.resetEvent).ie = false := rfl
@[simp] theorem resetEvent_m75 (s : State) : (s.resetEvent).m75 = true := rfl
@[simp] theorem resetEvent_m65 (s : State) : (s.resetEvent).m65 = true := rfl
@[simp] theorem resetEvent_m55 (s : State) : (s.resetEvent).m55 = true := rfl
@[simp] theorem resetEvent_i75 (s : State) : (s.resetEvent).i75 = false := rfl
@[simp] theorem resetEvent_trapLatch (s : State) : (s.resetEvent).trapLatch = false := rfl
@[simp] theorem resetEvent_sod (s : State) : (s.resetEvent).sod = false := rfl
@[simp] theorem resetEvent_halted (s : State) : (s.resetEvent).halted = false := rfl
@[simp] theorem resetEvent_eiPending (s : State) : (s.resetEvent).eiPending = false := rfl
@[simp] theorem resetEvent_ieAtTrap (s : State) : (s.resetEvent).ieAtTrap = s.ieAtTrap := rfl
@[simp] theorem resetEvent_ieAtTrapValid (s : State) : (s.resetEvent).ieAtTrapValid = false := rfl
@[simp] theorem resetEvent_prev75 (s : State) : (s.resetEvent).prev75 = false := rfl
@[simp] theorem resetEvent_prevTrap (s : State) : (s.resetEvent).prevTrap = false := rfl
@[simp] theorem resetEvent_mem (s : State) : (s.resetEvent).mem = s.mem := rfl
@[simp] theorem resetEvent_map (s : State) : (s.resetEvent).map = s.map := rfl
@[simp] theorem resetEvent_env (s : State) : (s.resetEvent).env = s.env := rfl

/-! ### Register files and pairs -/

theorem Regs.get_set (r : Regs) (q q' : Reg) (v : Byte) : (r.set q v).get q' = if q' = q then v else r.get q' := by
  cases q <;> cases q' <;> rfl

@[simp] theorem Regs.get_set_same (r : Regs) (q : Reg) (v : Byte) : (r.set q v).get q = v := by
  simp [Regs.get_set]

theorem Regs.get_set_other (r : Regs) {q q' : Reg} (v : Byte) (h : q' ≠ q) : (r.set q v).get q' = r.get q' := by
  simp [Regs.get_set, h]

@[simp] theorem setPair_flags (p : Pair) (v : Word) (s : State) : (s.setPair p v).flags = s.flags := by cases p <;> rfl
@[simp] theorem setPair_pc (p : Pair) (v : Word) (s : State) : (s.setPair p v).pc = s.pc := by cases p <;> rfl
@[simp] theorem setPair_ie (p : Pair) (v : Word) (s : State) : (s.setPair p v).ie = s.ie := by cases p <;> rfl
@[simp] theorem setPair_m75 (p : Pair) (v : Word) (s : State) : (s.setPair p v).m75 = s.m75 := by cases p <;> rfl
@[simp] theorem setPair_m65 (p : Pair) (v : Word) (s : State) : (s.setPair p v).m65 = s.m65 := by cases p <;> rfl
@[simp] theorem setPair_m55 (p : Pair) (v : Word) (s : State) : (s.setPair p v).m55 = s.m55 := by cases p <;> rfl
@[simp] theorem setPair_i75 (p : Pair) (v : Word) (s : State) : (s.setPair p v).i75 = s.i75 := by cases p <;> rfl
@[simp] theorem setPair_trapLatch (p : Pair) (v : Word) (s : State) : (s.setPair p v).trapLatch = s.trapLatch := by cases p <;> rfl
@[simp] theorem setPair_sod (p : Pair) (v : Word) (s : State) : (s.setPair p v).sod = s.sod := by cases p <;> rfl
@[simp] theorem setPair_halted (p : Pair) (v : Word) (s : State) : (s.setPair p v).halted = s.halted := by cases p <;> rfl
@[simp] theorem setPair_eiPending (p : Pair) (v : Word) (s : State) : (s.setPair p v).eiPending = s.eiPending := by cases p <;> rfl
@[simp] theorem setPair_ieAtTrap (p : Pair) (v : Word) (s : State) : (s.setPair p v).ieAtTrap = s.ieAtTrap := by cases p <;> rfl
@[simp] theorem setPair_ieAtTrapValid (p : Pair) (v : Word) (s : State) : (s.setPair p v).ieAtTrapValid = s.ieAtTrapValid := by cases p <;> rfl
@[simp] theorem setPair_prev75 (p : Pair) (v : Word) (s : State) : (s.setPair p v).prev75 = s.prev75 := by cases p <;> rfl
@[simp] theorem setPair_prevTrap (p : Pair) (v : Word) (s : State) : (s.setPair p v).prevTrap = s.prevTrap := by cases p <;> rfl
@[simp] theorem setPair_mem (p : Pair) (v : Word) (s : State) : (s.setPair p v).mem = s.mem := by cases p <;> rfl
@[simp] theorem setPair_map (p : Pair) (v : Word) (s : State) : (s.setPair p v).map = s.map := by cases p <;> rfl
@[simp] theorem setPair_env (p : Pair) (v : Word) (s : State) : (s.setPair p v).env = s.env := by cases p <;> rfl

/-- The high byte of `hi ++ lo`. -/
@[simp] theorem highByte_joinBytes (hi lo : Byte) : highByte (joinBytes hi lo) = hi := by
  unfold highByte joinBytes
  ext i h
  simp only [BitVec.getElem_extractLsb', BitVec.getLsbD_append]
  have : ¬ 8 + i < 8 := by omega
  simp [this, h]

/-- The low byte of `hi ++ lo`. -/
@[simp] theorem lowByte_joinBytes (hi lo : Byte) : lowByte (joinBytes hi lo) = lo := by
  unfold lowByte joinBytes
  ext i h
  simp only [BitVec.getElem_extractLsb', BitVec.getLsbD_append]
  simp [h]

/-- A word is its high byte beside its low byte. -/
@[simp] theorem joinBytes_high_low (w : Word) : joinBytes (highByte w) (lowByte w) = w := by
  unfold highByte lowByte joinBytes
  ext i h
  simp only [BitVec.getElem_append, BitVec.getElem_extractLsb']
  split
  · simp [BitVec.getLsbD_eq_getElem (show i < 16 from h)]
  · rw [← BitVec.getLsbD_eq_getElem]; congr 1; omega

/-- Writing a pair, then reading it, gives the value written. -/
@[simp] theorem pair_setPair (p : Pair) (v : Word) (s : State) : (s.setPair p v).pair p = v := by
  cases p <;> simp [State.pair, State.setPair, Regs.bc, Regs.de, Regs.hl]

end Sys2Proof.Machine
end

