-- ==== Sys2Proof/Laws/Memory.lean ====
section
/-! SUPPORT. Memory: what a read gives after a write, and the canonical form that every write keeps. -/

namespace Sys2Proof.Machine

/-- No cell lies below the address a canonical list starts at. -/
theorem Memory.read_below {lo : Nat} {m : Memory} (h : Memory.wfFrom lo m = true) {a : Nat} (ha : a < lo) :
    m.read a = Config.unlistedByte := by
  induction m generalizing lo with
  | nil => rfl
  | cons c rest ih =>
    obtain ⟨k, v⟩ := c
    simp only [Memory.wfFrom, Bool.and_eq_true, decide_eq_true_eq] at h
    have hk : ¬ k = a := by omega
    simp only [Memory.read, hk, if_false]
    exact ih h.2 (by omega)

/-- Reading the head of a list that a cell was put before. -/
theorem Memory.read_cons_same {lo a : Nat} {v : Byte} {m : Memory} (h : Memory.wfFrom lo m = true) (ha : a < lo) :
    (Memory.cons a v m).read a = v := by
  unfold Memory.cons
  split
  next hv => rw [Memory.read_below h ha, hv]
  next => simp [Memory.read]

theorem Memory.read_cons_other {a b : Nat} {v : Byte} {m : Memory} (h : b ≠ a) :
    (Memory.cons a v m).read b = m.read b := by
  unfold Memory.cons
  split
  · rfl
  · simp [Memory.read, Ne.symm h]

/-- A write is read back where it was made, in a canonical memory. -/
theorem Memory.read_write_same {m : Memory} (h : m.wf = true) (a : Nat) (v : Byte) : (m.write a v).read a = v := by
  suffices ∀ lo, Memory.wfFrom lo m = true → (m.write a v).read a = v from this 0 h
  intro lo hm
  clear h
  induction m generalizing lo with
  | nil => exact Memory.read_cons_same (lo := a + 1) rfl (Nat.lt_succ_self a)
  | cons c rest ih =>
    obtain ⟨k, w⟩ := c
    have hm' := hm
    simp only [Memory.wfFrom, Bool.and_eq_true, decide_eq_true_eq, bne_iff_ne, ne_eq] at hm
    simp only [Memory.write]
    split
    next hlt =>
      refine Memory.read_cons_same (lo := k) ?_ hlt
      simp [Memory.wfFrom, hm.1.1.2, hm.1.2, hm.2]
    next hge =>
      split
      next heq => exact heq ▸ Memory.read_cons_same hm.2 (by omega)
      next hne =>
        have hk : ¬ k = a := fun e => hne e.symm
        simp only [Memory.read, hk, if_false]
        exact ih (k + 1) hm.2

/-- A write leaves every other address alone. -/
theorem Memory.read_write_other (m : Memory) {a b : Nat} (v : Byte) (h : b ≠ a) : (m.write a v).read b = m.read b := by
  induction m with
  | nil => exact Memory.read_cons_other h
  | cons c rest ih =>
    obtain ⟨k, w⟩ := c
    simp only [Memory.write]
    split
    · exact Memory.read_cons_other h
    · split
      next heq =>
        have hk : ¬ k = b := fun e => h (e.symm.trans heq.symm)
        simp [Memory.read_cons_other h, Memory.read, hk]
      next => simp only [Memory.read, ih]

/-- Putting a cell before a canonical list keeps the form. -/
theorem Memory.cons_wfFrom {lo a : Nat} {v : Byte} {m : Memory} (hm : Memory.wfFrom (a + 1) m = true) (hlo : lo ≤ a)
    (ha : a < 65536) : Memory.wfFrom lo (Memory.cons a v m) = true := by
  unfold Memory.cons
  split
  next =>
    cases m with
    | nil => rfl
    | cons c rest =>
      simp only [Memory.wfFrom, Bool.and_eq_true, decide_eq_true_eq] at hm ⊢
      exact ⟨⟨⟨by omega, hm.1.1.2⟩, hm.1.2⟩, hm.2⟩
  next hv => simp [Memory.wfFrom, hlo, ha, hv, hm]

theorem Memory.write_wfFrom {lo a : Nat} {v : Byte} {m : Memory} (hm : Memory.wfFrom lo m = true) (hlo : lo ≤ a)
    (ha : a < 65536) : Memory.wfFrom lo (m.write a v) = true := by
  induction m generalizing lo with
  | nil => exact Memory.cons_wfFrom rfl hlo ha
  | cons c rest ih =>
    obtain ⟨k, w⟩ := c
    simp only [Memory.wfFrom, Bool.and_eq_true, decide_eq_true_eq] at hm
    simp only [Memory.write]
    split
    next hlt =>
      refine Memory.cons_wfFrom ?_ hlo ha
      simp only [Memory.wfFrom, Bool.and_eq_true, decide_eq_true_eq]
      exact ⟨⟨⟨by omega, hm.1.1.2⟩, hm.1.2⟩, hm.2⟩
    next hge =>
      split
      next heq => exact Memory.cons_wfFrom (heq ▸ hm.2) hlo ha
      next hne =>
        simp only [Memory.wfFrom, Bool.and_eq_true, decide_eq_true_eq]
        exact ⟨hm.1, ih hm.2 (by omega)⟩

/-- Every write at an address of the space keeps the canonical form. -/
theorem Memory.write_wf {m : Memory} (h : m.wf = true) (a : Word) (v : Byte) : (m.write a.toNat v).wf = true :=
  Memory.write_wfFrom h (Nat.zero_le _) a.isLt

/-- The memory of the reset state is canonical. -/
theorem reset_mem_wf : State.reset.mem.wf = true := rfl

end Sys2Proof.Machine
end

