-- ==== Sys2Proof/Laws/Ops.lean ====
section
/-! SUPPORT. What each shared operation can do, said once. -/

namespace Sys2Proof.Machine

/-! ## What the reads of the environment leave alone -/

@[simp] theorem anyBit_regs (s : State) : (s.anyBit.2).regs = s.regs := by unfold State.anyBit; split <;> rfl
@[simp] theorem anyBit_flags (s : State) : (s.anyBit.2).flags = s.flags := by unfold State.anyBit; split <;> rfl
@[simp] theorem anyBit_sp (s : State) : (s.anyBit.2).sp = s.sp := by unfold State.anyBit; split <;> rfl
@[simp] theorem anyBit_pc (s : State) : (s.anyBit.2).pc = s.pc := by unfold State.anyBit; split <;> rfl
@[simp] theorem anyBit_ie (s : State) : (s.anyBit.2).ie = s.ie := by unfold State.anyBit; split <;> rfl
@[simp] theorem anyBit_m75 (s : State) : (s.anyBit.2).m75 = s.m75 := by unfold State.anyBit; split <;> rfl
@[simp] theorem anyBit_m65 (s : State) : (s.anyBit.2).m65 = s.m65 := by unfold State.anyBit; split <;> rfl
@[simp] theorem anyBit_m55 (s : State) : (s.anyBit.2).m55 = s.m55 := by unfold State.anyBit; split <;> rfl
@[simp] theorem anyBit_i75 (s : State) : (s.anyBit.2).i75 = s.i75 := by unfold State.anyBit; split <;> rfl
@[simp] theorem anyBit_trapLatch (s : State) : (s.anyBit.2).trapLatch = s.trapLatch := by unfold State.anyBit; split <;> rfl
@[simp] theorem anyBit_sod (s : State) : (s.anyBit.2).sod = s.sod := by unfold State.anyBit; split <;> rfl
@[simp] theorem anyBit_halted (s : State) : (s.anyBit.2).halted = s.halted := by unfold State.anyBit; split <;> rfl
@[simp] theorem anyBit_eiPending (s : State) : (s.anyBit.2).eiPending = s.eiPending := by unfold State.anyBit; split <;> rfl
@[simp] theorem anyBit_ieAtTrap (s : State) : (s.anyBit.2).ieAtTrap = s.ieAtTrap := by unfold State.anyBit; split <;> rfl
@[simp] theorem anyBit_ieAtTrapValid (s : State) : (s.anyBit.2).ieAtTrapValid = s.ieAtTrapValid := by unfold State.anyBit; split <;> rfl
@[simp] theorem anyBit_prev75 (s : State) : (s.anyBit.2).prev75 = s.prev75 := by unfold State.anyBit; split <;> rfl
@[simp] theorem anyBit_prevTrap (s : State) : (s.anyBit.2).prevTrap = s.prevTrap := by unfold State.anyBit; split <;> rfl
@[simp] theorem anyBit_mem (s : State) : (s.anyBit.2).mem = s.mem := by unfold State.anyBit; split <;> rfl
@[simp] theorem anyBit_map (s : State) : (s.anyBit.2).map = s.map := by unfold State.anyBit; split <;> rfl
@[simp] theorem anyBit_lines (s : State) : (s.anyBit.2).env.lines = s.env.lines := by unfold State.anyBit; split <;> rfl
@[simp] theorem anyBit_samples (s : State) : (s.anyBit.2).env.samples = s.env.samples := by unfold State.anyBit; split <;> rfl

@[simp] theorem absentByte_regs (s : State) : (s.absentByte.2).regs = s.regs := by rfl
@[simp] theorem absentByte_flags (s : State) : (s.absentByte.2).flags = s.flags := by rfl
@[simp] theorem absentByte_sp (s : State) : (s.absentByte.2).sp = s.sp := by rfl
@[simp] theorem absentByte_pc (s : State) : (s.absentByte.2).pc = s.pc := by rfl
@[simp] theorem absentByte_ie (s : State) : (s.absentByte.2).ie = s.ie := by rfl
@[simp] theorem absentByte_m75 (s : State) : (s.absentByte.2).m75 = s.m75 := by rfl
@[simp] theorem absentByte_m65 (s : State) : (s.absentByte.2).m65 = s.m65 := by rfl
@[simp] theorem absentByte_m55 (s : State) : (s.absentByte.2).m55 = s.m55 := by rfl
@[simp] theorem absentByte_i75 (s : State) : (s.absentByte.2).i75 = s.i75 := by rfl
@[simp] theorem absentByte_trapLatch (s : State) : (s.absentByte.2).trapLatch = s.trapLatch := by rfl
@[simp] theorem absentByte_sod (s : State) : (s.absentByte.2).sod = s.sod := by rfl
@[simp] theorem absentByte_halted (s : State) : (s.absentByte.2).halted = s.halted := by rfl
@[simp] theorem absentByte_eiPending (s : State) : (s.absentByte.2).eiPending = s.eiPending := by rfl
@[simp] theorem absentByte_ieAtTrap (s : State) : (s.absentByte.2).ieAtTrap = s.ieAtTrap := by rfl
@[simp] theorem absentByte_ieAtTrapValid (s : State) : (s.absentByte.2).ieAtTrapValid = s.ieAtTrapValid := by rfl
@[simp] theorem absentByte_prev75 (s : State) : (s.absentByte.2).prev75 = s.prev75 := by rfl
@[simp] theorem absentByte_prevTrap (s : State) : (s.absentByte.2).prevTrap = s.prevTrap := by rfl
@[simp] theorem absentByte_mem (s : State) : (s.absentByte.2).mem = s.mem := by rfl
@[simp] theorem absentByte_map (s : State) : (s.absentByte.2).map = s.map := by rfl
@[simp] theorem absentByte_lines (s : State) : (s.absentByte.2).env.lines = s.env.lines := by rfl
@[simp] theorem absentByte_samples (s : State) : (s.absentByte.2).env.samples = s.env.samples := by rfl

@[simp] theorem answer_regs (s : State) : (s.answer.2).regs = s.regs := by unfold State.answer; split <;> rfl
@[simp] theorem answer_flags (s : State) : (s.answer.2).flags = s.flags := by unfold State.answer; split <;> rfl
@[simp] theorem answer_sp (s : State) : (s.answer.2).sp = s.sp := by unfold State.answer; split <;> rfl
@[simp] theorem answer_pc (s : State) : (s.answer.2).pc = s.pc := by unfold State.answer; split <;> rfl
@[simp] theorem answer_ie (s : State) : (s.answer.2).ie = s.ie := by unfold State.answer; split <;> rfl
@[simp] theorem answer_m75 (s : State) : (s.answer.2).m75 = s.m75 := by unfold State.answer; split <;> rfl
@[simp] theorem answer_m65 (s : State) : (s.answer.2).m65 = s.m65 := by unfold State.answer; split <;> rfl
@[simp] theorem answer_m55 (s : State) : (s.answer.2).m55 = s.m55 := by unfold State.answer; split <;> rfl
@[simp] theorem answer_i75 (s : State) : (s.answer.2).i75 = s.i75 := by unfold State.answer; split <;> rfl
@[simp] theorem answer_trapLatch (s : State) : (s.answer.2).trapLatch = s.trapLatch := by unfold State.answer; split <;> rfl
@[simp] theorem answer_sod (s : State) : (s.answer.2).sod = s.sod := by unfold State.answer; split <;> rfl
@[simp] theorem answer_halted (s : State) : (s.answer.2).halted = s.halted := by unfold State.answer; split <;> rfl
@[simp] theorem answer_eiPending (s : State) : (s.answer.2).eiPending = s.eiPending := by unfold State.answer; split <;> rfl
@[simp] theorem answer_ieAtTrap (s : State) : (s.answer.2).ieAtTrap = s.ieAtTrap := by unfold State.answer; split <;> rfl
@[simp] theorem answer_ieAtTrapValid (s : State) : (s.answer.2).ieAtTrapValid = s.ieAtTrapValid := by unfold State.answer; split <;> rfl
@[simp] theorem answer_prev75 (s : State) : (s.answer.2).prev75 = s.prev75 := by unfold State.answer; split <;> rfl
@[simp] theorem answer_prevTrap (s : State) : (s.answer.2).prevTrap = s.prevTrap := by unfold State.answer; split <;> rfl
@[simp] theorem answer_mem (s : State) : (s.answer.2).mem = s.mem := by unfold State.answer; split <;> rfl
@[simp] theorem answer_map (s : State) : (s.answer.2).map = s.map := by unfold State.answer; split <;> rfl
@[simp] theorem answer_lines (s : State) : (s.answer.2).env.lines = s.env.lines := by unfold State.answer; split <;> rfl
@[simp] theorem answer_samples (s : State) : (s.answer.2).env.samples = s.env.samples := by unfold State.answer; split <;> rfl

@[simp] theorem intaReply_regs (s : State) : (s.intaReply.2).regs = s.regs := by unfold State.intaReply; split <;> rfl
@[simp] theorem intaReply_flags (s : State) : (s.intaReply.2).flags = s.flags := by unfold State.intaReply; split <;> rfl
@[simp] theorem intaReply_sp (s : State) : (s.intaReply.2).sp = s.sp := by unfold State.intaReply; split <;> rfl
@[simp] theorem intaReply_pc (s : State) : (s.intaReply.2).pc = s.pc := by unfold State.intaReply; split <;> rfl
@[simp] theorem intaReply_ie (s : State) : (s.intaReply.2).ie = s.ie := by unfold State.intaReply; split <;> rfl
@[simp] theorem intaReply_m75 (s : State) : (s.intaReply.2).m75 = s.m75 := by unfold State.intaReply; split <;> rfl
@[simp] theorem intaReply_m65 (s : State) : (s.intaReply.2).m65 = s.m65 := by unfold State.intaReply; split <;> rfl
@[simp] theorem intaReply_m55 (s : State) : (s.intaReply.2).m55 = s.m55 := by unfold State.intaReply; split <;> rfl
@[simp] theorem intaReply_i75 (s : State) : (s.intaReply.2).i75 = s.i75 := by unfold State.intaReply; split <;> rfl
@[simp] theorem intaReply_trapLatch (s : State) : (s.intaReply.2).trapLatch = s.trapLatch := by unfold State.intaReply; split <;> rfl
@[simp] theorem intaReply_sod (s : State) : (s.intaReply.2).sod = s.sod := by unfold State.intaReply; split <;> rfl
@[simp] theorem intaReply_halted (s : State) : (s.intaReply.2).halted = s.halted := by unfold State.intaReply; split <;> rfl
@[simp] theorem intaReply_eiPending (s : State) : (s.intaReply.2).eiPending = s.eiPending := by unfold State.intaReply; split <;> rfl
@[simp] theorem intaReply_ieAtTrap (s : State) : (s.intaReply.2).ieAtTrap = s.ieAtTrap := by unfold State.intaReply; split <;> rfl
@[simp] theorem intaReply_ieAtTrapValid (s : State) : (s.intaReply.2).ieAtTrapValid = s.ieAtTrapValid := by unfold State.intaReply; split <;> rfl
@[simp] theorem intaReply_prev75 (s : State) : (s.intaReply.2).prev75 = s.prev75 := by unfold State.intaReply; split <;> rfl
@[simp] theorem intaReply_prevTrap (s : State) : (s.intaReply.2).prevTrap = s.prevTrap := by unfold State.intaReply; split <;> rfl
@[simp] theorem intaReply_mem (s : State) : (s.intaReply.2).mem = s.mem := by unfold State.intaReply; split <;> rfl
@[simp] theorem intaReply_map (s : State) : (s.intaReply.2).map = s.map := by unfold State.intaReply; split <;> rfl
@[simp] theorem intaReply_lines (s : State) : (s.intaReply.2).env.lines = s.env.lines := by unfold State.intaReply; split <;> rfl
@[simp] theorem intaReply_samples (s : State) : (s.intaReply.2).env.samples = s.env.samples := by unfold State.intaReply; split <;> rfl

@[simp] theorem takeSample_regs (s : State) : (s.takeSample).regs = s.regs := by unfold State.takeSample; split <;> rfl
@[simp] theorem takeSample_flags (s : State) : (s.takeSample).flags = s.flags := by unfold State.takeSample; split <;> rfl
@[simp] theorem takeSample_sp (s : State) : (s.takeSample).sp = s.sp := by unfold State.takeSample; split <;> rfl
@[simp] theorem takeSample_pc (s : State) : (s.takeSample).pc = s.pc := by unfold State.takeSample; split <;> rfl
@[simp] theorem takeSample_ie (s : State) : (s.takeSample).ie = s.ie := by unfold State.takeSample; split <;> rfl
@[simp] theorem takeSample_m75 (s : State) : (s.takeSample).m75 = s.m75 := by unfold State.takeSample; split <;> rfl
@[simp] theorem takeSample_m65 (s : State) : (s.takeSample).m65 = s.m65 := by unfold State.takeSample; split <;> rfl
@[simp] theorem takeSample_m55 (s : State) : (s.takeSample).m55 = s.m55 := by unfold State.takeSample; split <;> rfl
@[simp] theorem takeSample_i75 (s : State) : (s.takeSample).i75 = s.i75 := by unfold State.takeSample; split <;> rfl
@[simp] theorem takeSample_trapLatch (s : State) : (s.takeSample).trapLatch = s.trapLatch := by unfold State.takeSample; split <;> rfl
@[simp] theorem takeSample_sod (s : State) : (s.takeSample).sod = s.sod := by unfold State.takeSample; split <;> rfl
@[simp] theorem takeSample_halted (s : State) : (s.takeSample).halted = s.halted := by unfold State.takeSample; split <;> rfl
@[simp] theorem takeSample_eiPending (s : State) : (s.takeSample).eiPending = s.eiPending := by unfold State.takeSample; split <;> rfl
@[simp] theorem takeSample_ieAtTrap (s : State) : (s.takeSample).ieAtTrap = s.ieAtTrap := by unfold State.takeSample; split <;> rfl
@[simp] theorem takeSample_ieAtTrapValid (s : State) : (s.takeSample).ieAtTrapValid = s.ieAtTrapValid := by unfold State.takeSample; split <;> rfl
@[simp] theorem takeSample_prev75 (s : State) : (s.takeSample).prev75 = s.prev75 := by unfold State.takeSample; split <;> rfl
@[simp] theorem takeSample_prevTrap (s : State) : (s.takeSample).prevTrap = s.prevTrap := by unfold State.takeSample; split <;> rfl
@[simp] theorem takeSample_mem (s : State) : (s.takeSample).mem = s.mem := by unfold State.takeSample; split <;> rfl
@[simp] theorem takeSample_map (s : State) : (s.takeSample).map = s.map := by unfold State.takeSample; split <;> rfl

@[simp] theorem ioRead_regs (port : Byte) (s : State) : ((s.ioRead port).2).regs = s.regs := by simp [State.ioRead]
@[simp] theorem ioRead_flags (port : Byte) (s : State) : ((s.ioRead port).2).flags = s.flags := by simp [State.ioRead]
@[simp] theorem ioRead_sp (port : Byte) (s : State) : ((s.ioRead port).2).sp = s.sp := by simp [State.ioRead]
@[simp] theorem ioRead_pc (port : Byte) (s : State) : ((s.ioRead port).2).pc = s.pc := by simp [State.ioRead]
@[simp] theorem ioRead_ie (port : Byte) (s : State) : ((s.ioRead port).2).ie = s.ie := by simp [State.ioRead]
@[simp] theorem ioRead_m75 (port : Byte) (s : State) : ((s.ioRead port).2).m75 = s.m75 := by simp [State.ioRead]
@[simp] theorem ioRead_m65 (port : Byte) (s : State) : ((s.ioRead port).2).m65 = s.m65 := by simp [State.ioRead]
@[simp] theorem ioRead_m55 (port : Byte) (s : State) : ((s.ioRead port).2).m55 = s.m55 := by simp [State.ioRead]
@[simp] theorem ioRead_i75 (port : Byte) (s : State) : ((s.ioRead port).2).i75 = s.i75 := by simp [State.ioRead]
@[simp] theorem ioRead_trapLatch (port : Byte) (s : State) : ((s.ioRead port).2).trapLatch = s.trapLatch := by simp [State.ioRead]
@[simp] theorem ioRead_sod (port : Byte) (s : State) : ((s.ioRead port).2).sod = s.sod := by simp [State.ioRead]
@[simp] theorem ioRead_halted (port : Byte) (s : State) : ((s.ioRead port).2).halted = s.halted := by simp [State.ioRead]
@[simp] theorem ioRead_eiPending (port : Byte) (s : State) : ((s.ioRead port).2).eiPending = s.eiPending := by simp [State.ioRead]
@[simp] theorem ioRead_ieAtTrap (port : Byte) (s : State) : ((s.ioRead port).2).ieAtTrap = s.ieAtTrap := by simp [State.ioRead]
@[simp] theorem ioRead_ieAtTrapValid (port : Byte) (s : State) : ((s.ioRead port).2).ieAtTrapValid = s.ieAtTrapValid := by simp [State.ioRead]
@[simp] theorem ioRead_prev75 (port : Byte) (s : State) : ((s.ioRead port).2).prev75 = s.prev75 := by simp [State.ioRead]
@[simp] theorem ioRead_prevTrap (port : Byte) (s : State) : ((s.ioRead port).2).prevTrap = s.prevTrap := by simp [State.ioRead]
@[simp] theorem ioRead_mem (port : Byte) (s : State) : ((s.ioRead port).2).mem = s.mem := by simp [State.ioRead]
@[simp] theorem ioRead_map (port : Byte) (s : State) : ((s.ioRead port).2).map = s.map := by simp [State.ioRead]
@[simp] theorem ioRead_lines (port : Byte) (s : State) : ((s.ioRead port).2).env.lines = s.env.lines := by simp [State.ioRead]
@[simp] theorem ioRead_samples (port : Byte) (s : State) : ((s.ioRead port).2).env.samples = s.env.samples := by simp [State.ioRead]

@[simp] theorem ioWrite_regs (port v : Byte) (s : State) : (s.ioWrite port v).regs = s.regs := by simp [State.ioWrite]
@[simp] theorem ioWrite_flags (port v : Byte) (s : State) : (s.ioWrite port v).flags = s.flags := by simp [State.ioWrite]
@[simp] theorem ioWrite_sp (port v : Byte) (s : State) : (s.ioWrite port v).sp = s.sp := by simp [State.ioWrite]
@[simp] theorem ioWrite_pc (port v : Byte) (s : State) : (s.ioWrite port v).pc = s.pc := by simp [State.ioWrite]
@[simp] theorem ioWrite_ie (port v : Byte) (s : State) : (s.ioWrite port v).ie = s.ie := by simp [State.ioWrite]
@[simp] theorem ioWrite_m75 (port v : Byte) (s : State) : (s.ioWrite port v).m75 = s.m75 := by simp [State.ioWrite]
@[simp] theorem ioWrite_m65 (port v : Byte) (s : State) : (s.ioWrite port v).m65 = s.m65 := by simp [State.ioWrite]
@[simp] theorem ioWrite_m55 (port v : Byte) (s : State) : (s.ioWrite port v).m55 = s.m55 := by simp [State.ioWrite]
@[simp] theorem ioWrite_i75 (port v : Byte) (s : State) : (s.ioWrite port v).i75 = s.i75 := by simp [State.ioWrite]
@[simp] theorem ioWrite_trapLatch (port v : Byte) (s : State) : (s.ioWrite port v).trapLatch = s.trapLatch := by simp [State.ioWrite]
@[simp] theorem ioWrite_sod (port v : Byte) (s : State) : (s.ioWrite port v).sod = s.sod := by simp [State.ioWrite]
@[simp] theorem ioWrite_halted (port v : Byte) (s : State) : (s.ioWrite port v).halted = s.halted := by simp [State.ioWrite]
@[simp] theorem ioWrite_eiPending (port v : Byte) (s : State) : (s.ioWrite port v).eiPending = s.eiPending := by simp [State.ioWrite]
@[simp] theorem ioWrite_ieAtTrap (port v : Byte) (s : State) : (s.ioWrite port v).ieAtTrap = s.ieAtTrap := by simp [State.ioWrite]
@[simp] theorem ioWrite_ieAtTrapValid (port v : Byte) (s : State) : (s.ioWrite port v).ieAtTrapValid = s.ieAtTrapValid := by simp [State.ioWrite]
@[simp] theorem ioWrite_prev75 (port v : Byte) (s : State) : (s.ioWrite port v).prev75 = s.prev75 := by simp [State.ioWrite]
@[simp] theorem ioWrite_prevTrap (port v : Byte) (s : State) : (s.ioWrite port v).prevTrap = s.prevTrap := by simp [State.ioWrite]
@[simp] theorem ioWrite_mem (port v : Byte) (s : State) : (s.ioWrite port v).mem = s.mem := by simp [State.ioWrite]
@[simp] theorem ioWrite_map (port v : Byte) (s : State) : (s.ioWrite port v).map = s.map := by simp [State.ioWrite]
@[simp] theorem ioWrite_lines (port v : Byte) (s : State) : (s.ioWrite port v).env.lines = s.env.lines := by simp [State.ioWrite]
@[simp] theorem ioWrite_samples (port v : Byte) (s : State) : (s.ioWrite port v).env.samples = s.env.samples := by simp [State.ioWrite]

/-! ## Memory accesses -/

/-- What a memory read can do (20_memory.md R51). -/
theorem memRead_cases (a : Word) (s : State) :
    ((s.kindAt a = .ram ∨ s.kindAt a = .rom) ∧ s.memRead a = (s.byteAt a, s)) ∨
    (s.kindAt a = .absent ∧ s.memRead a = s.absentByte) ∨
    (s.kindAt a = .device ∧ s.memRead a = (s.answer.1, s.answer.2.record (.deviceRead a s.answer.1))) := by
  unfold State.memRead
  cases h : s.kindAt a <;> simp

/-- A read of RAM or ROM gives the byte held and changes nothing. -/
theorem memRead_stored {a : Word} {s : State} (h : s.kindAt a = .ram ∨ s.kindAt a = .rom) :
    s.memRead a = (s.byteAt a, s) := by
  unfold State.memRead
  rcases h with h | h <;> simp [h]

/-- What a memory write can do (20_memory.md R51). -/
theorem memWrite_cases (a : Word) (v : Byte) (s : State) :
    (s.kindAt a = .ram ∧ s.memWrite a v = { s with mem := s.mem.write a.toNat v }) ∨
    ((s.kindAt a = .rom ∨ s.kindAt a = .absent) ∧ s.memWrite a v = s) ∨
    (s.kindAt a = .device ∧ s.memWrite a v = s.record (.deviceWrite a v)) := by
  unfold State.memWrite
  cases h : s.kindAt a <;> simp

/-- A write to RAM. -/
theorem memWrite_ram {a : Word} {s : State} (v : Byte) (h : s.kindAt a = .ram) :
    s.memWrite a v = { s with mem := s.mem.write a.toNat v } := by
  unfold State.memWrite
  simp [h]

@[simp] theorem memRead_regs (a : Word) (s : State) : ((s.memRead a).2).regs = s.regs := by rcases memRead_cases a s with ⟨_, h⟩ | ⟨_, h⟩ | ⟨_, h⟩ <;> simp [h]
@[simp] theorem memRead_flags (a : Word) (s : State) : ((s.memRead a).2).flags = s.flags := by rcases memRead_cases a s with ⟨_, h⟩ | ⟨_, h⟩ | ⟨_, h⟩ <;> simp [h]
@[simp] theorem memRead_sp (a : Word) (s : State) : ((s.memRead a).2).sp = s.sp := by rcases memRead_cases a s with ⟨_, h⟩ | ⟨_, h⟩ | ⟨_, h⟩ <;> simp [h]
@[simp] theorem memRead_pc (a : Word) (s : State) : ((s.memRead a).2).pc = s.pc := by rcases memRead_cases a s with ⟨_, h⟩ | ⟨_, h⟩ | ⟨_, h⟩ <;> simp [h]
@[simp] theorem memRead_ie (a : Word) (s : State) : ((s.memRead a).2).ie = s.ie := by rcases memRead_cases a s with ⟨_, h⟩ | ⟨_, h⟩ | ⟨_, h⟩ <;> simp [h]
@[simp] theorem memRead_m75 (a : Word) (s : State) : ((s.memRead a).2).m75 = s.m75 := by rcases memRead_cases a s with ⟨_, h⟩ | ⟨_, h⟩ | ⟨_, h⟩ <;> simp [h]
@[simp] theorem memRead_m65 (a : Word) (s : State) : ((s.memRead a).2).m65 = s.m65 := by rcases memRead_cases a s with ⟨_, h⟩ | ⟨_, h⟩ | ⟨_, h⟩ <;> simp [h]
@[simp] theorem memRead_m55 (a : Word) (s : State) : ((s.memRead a).2).m55 = s.m55 := by rcases memRead_cases a s with ⟨_, h⟩ | ⟨_, h⟩ | ⟨_, h⟩ <;> simp [h]
@[simp] theorem memRead_i75 (a : Word) (s : State) : ((s.memRead a).2).i75 = s.i75 := by rcases memRead_cases a s with ⟨_, h⟩ | ⟨_, h⟩ | ⟨_, h⟩ <;> simp [h]
@[simp] theorem memRead_trapLatch (a : Word) (s : State) : ((s.memRead a).2).trapLatch = s.trapLatch := by rcases memRead_cases a s with ⟨_, h⟩ | ⟨_, h⟩ | ⟨_, h⟩ <;> simp [h]
@[simp] theorem memRead_sod (a : Word) (s : State) : ((s.memRead a).2).sod = s.sod := by rcases memRead_cases a s with ⟨_, h⟩ | ⟨_, h⟩ | ⟨_, h⟩ <;> simp [h]
@[simp] theorem memRead_halted (a : Word) (s : State) : ((s.memRead a).2).halted = s.halted := by rcases memRead_cases a s with ⟨_, h⟩ | ⟨_, h⟩ | ⟨_, h⟩ <;> simp [h]
@[simp] theorem memRead_eiPending (a : Word) (s : State) : ((s.memRead a).2).eiPending = s.eiPending := by rcases memRead_cases a s with ⟨_, h⟩ | ⟨_, h⟩ | ⟨_, h⟩ <;> simp [h]
@[simp] theorem memRead_ieAtTrap (a : Word) (s : State) : ((s.memRead a).2).ieAtTrap = s.ieAtTrap := by rcases memRead_cases a s with ⟨_, h⟩ | ⟨_, h⟩ | ⟨_, h⟩ <;> simp [h]
@[simp] theorem memRead_ieAtTrapValid (a : Word) (s : State) : ((s.memRead a).2).ieAtTrapValid = s.ieAtTrapValid := by rcases memRead_cases a s with ⟨_, h⟩ | ⟨_, h⟩ | ⟨_, h⟩ <;> simp [h]
@[simp] theorem memRead_prev75 (a : Word) (s : State) : ((s.memRead a).2).prev75 = s.prev75 := by rcases memRead_cases a s with ⟨_, h⟩ | ⟨_, h⟩ | ⟨_, h⟩ <;> simp [h]
@[simp] theorem memRead_prevTrap (a : Word) (s : State) : ((s.memRead a).2).prevTrap = s.prevTrap := by rcases memRead_cases a s with ⟨_, h⟩ | ⟨_, h⟩ | ⟨_, h⟩ <;> simp [h]
@[simp] theorem memRead_mem (a : Word) (s : State) : ((s.memRead a).2).mem = s.mem := by rcases memRead_cases a s with ⟨_, h⟩ | ⟨_, h⟩ | ⟨_, h⟩ <;> simp [h]
@[simp] theorem memRead_map (a : Word) (s : State) : ((s.memRead a).2).map = s.map := by rcases memRead_cases a s with ⟨_, h⟩ | ⟨_, h⟩ | ⟨_, h⟩ <;> simp [h]
@[simp] theorem memRead_lines (a : Word) (s : State) : ((s.memRead a).2).env.lines = s.env.lines := by rcases memRead_cases a s with ⟨_, h⟩ | ⟨_, h⟩ | ⟨_, h⟩ <;> simp [h]
@[simp] theorem memRead_samples (a : Word) (s : State) : ((s.memRead a).2).env.samples = s.env.samples := by rcases memRead_cases a s with ⟨_, h⟩ | ⟨_, h⟩ | ⟨_, h⟩ <;> simp [h]

@[simp] theorem memWrite_regs (a : Word) (v : Byte) (s : State) : (s.memWrite a v).regs = s.regs := by rcases memWrite_cases a v s with ⟨_, h⟩ | ⟨_, h⟩ | ⟨_, h⟩ <;> simp [h]
@[simp] theorem memWrite_flags (a : Word) (v : Byte) (s : State) : (s.memWrite a v).flags = s.flags := by rcases memWrite_cases a v s with ⟨_, h⟩ | ⟨_, h⟩ | ⟨_, h⟩ <;> simp [h]
@[simp] theorem memWrite_sp (a : Word) (v : Byte) (s : State) : (s.memWrite a v).sp = s.sp := by rcases memWrite_cases a v s with ⟨_, h⟩ | ⟨_, h⟩ | ⟨_, h⟩ <;> simp [h]
@[simp] theorem memWrite_pc (a : Word) (v : Byte) (s : State) : (s.memWrite a v).pc = s.pc := by rcases memWrite_cases a v s with ⟨_, h⟩ | ⟨_, h⟩ | ⟨_, h⟩ <;> simp [h]
@[simp] theorem memWrite_ie (a : Word) (v : Byte) (s : State) : (s.memWrite a v).ie = s.ie := by rcases memWrite_cases a v s with ⟨_, h⟩ | ⟨_, h⟩ | ⟨_, h⟩ <;> simp [h]
@[simp] theorem memWrite_m75 (a : Word) (v : Byte) (s : State) : (s.memWrite a v).m75 = s.m75 := by rcases memWrite_cases a v s with ⟨_, h⟩ | ⟨_, h⟩ | ⟨_, h⟩ <;> simp [h]
@[simp] theorem memWrite_m65 (a : Word) (v : Byte) (s : State) : (s.memWrite a v).m65 = s.m65 := by rcases memWrite_cases a v s with ⟨_, h⟩ | ⟨_, h⟩ | ⟨_, h⟩ <;> simp [h]
@[simp] theorem memWrite_m55 (a : Word) (v : Byte) (s : State) : (s.memWrite a v).m55 = s.m55 := by rcases memWrite_cases a v s with ⟨_, h⟩ | ⟨_, h⟩ | ⟨_, h⟩ <;> simp [h]
@[simp] theorem memWrite_i75 (a : Word) (v : Byte) (s : State) : (s.memWrite a v).i75 = s.i75 := by rcases memWrite_cases a v s with ⟨_, h⟩ | ⟨_, h⟩ | ⟨_, h⟩ <;> simp [h]
@[simp] theorem memWrite_trapLatch (a : Word) (v : Byte) (s : State) : (s.memWrite a v).trapLatch = s.trapLatch := by rcases memWrite_cases a v s with ⟨_, h⟩ | ⟨_, h⟩ | ⟨_, h⟩ <;> simp [h]
@[simp] theorem memWrite_sod (a : Word) (v : Byte) (s : State) : (s.memWrite a v).sod = s.sod := by rcases memWrite_cases a v s with ⟨_, h⟩ | ⟨_, h⟩ | ⟨_, h⟩ <;> simp [h]
@[simp] theorem memWrite_halted (a : Word) (v : Byte) (s : State) : (s.memWrite a v).halted = s.halted := by rcases memWrite_cases a v s with ⟨_, h⟩ | ⟨_, h⟩ | ⟨_, h⟩ <;> simp [h]
@[simp] theorem memWrite_eiPending (a : Word) (v : Byte) (s : State) : (s.memWrite a v).eiPending = s.eiPending := by rcases memWrite_cases a v s with ⟨_, h⟩ | ⟨_, h⟩ | ⟨_, h⟩ <;> simp [h]
@[simp] theorem memWrite_ieAtTrap (a : Word) (v : Byte) (s : State) : (s.memWrite a v).ieAtTrap = s.ieAtTrap := by rcases memWrite_cases a v s with ⟨_, h⟩ | ⟨_, h⟩ | ⟨_, h⟩ <;> simp [h]
@[simp] theorem memWrite_ieAtTrapValid (a : Word) (v : Byte) (s : State) : (s.memWrite a v).ieAtTrapValid = s.ieAtTrapValid := by rcases memWrite_cases a v s with ⟨_, h⟩ | ⟨_, h⟩ | ⟨_, h⟩ <;> simp [h]
@[simp] theorem memWrite_prev75 (a : Word) (v : Byte) (s : State) : (s.memWrite a v).prev75 = s.prev75 := by rcases memWrite_cases a v s with ⟨_, h⟩ | ⟨_, h⟩ | ⟨_, h⟩ <;> simp [h]
@[simp] theorem memWrite_prevTrap (a : Word) (v : Byte) (s : State) : (s.memWrite a v).prevTrap = s.prevTrap := by rcases memWrite_cases a v s with ⟨_, h⟩ | ⟨_, h⟩ | ⟨_, h⟩ <;> simp [h]
@[simp] theorem memWrite_map (a : Word) (v : Byte) (s : State) : (s.memWrite a v).map = s.map := by rcases memWrite_cases a v s with ⟨_, h⟩ | ⟨_, h⟩ | ⟨_, h⟩ <;> simp [h]
@[simp] theorem memWrite_lines (a : Word) (v : Byte) (s : State) : (s.memWrite a v).env.lines = s.env.lines := by rcases memWrite_cases a v s with ⟨_, h⟩ | ⟨_, h⟩ | ⟨_, h⟩ <;> simp [h]
@[simp] theorem memWrite_samples (a : Word) (v : Byte) (s : State) : (s.memWrite a v).env.samples = s.env.samples := by rcases memWrite_cases a v s with ⟨_, h⟩ | ⟨_, h⟩ | ⟨_, h⟩ <;> simp [h]

@[simp] theorem memRead16_regs (a : Word) (s : State) : ((s.memRead16 a).2).regs = s.regs := by simp [State.memRead16]
@[simp] theorem memRead16_flags (a : Word) (s : State) : ((s.memRead16 a).2).flags = s.flags := by simp [State.memRead16]
@[simp] theorem memRead16_sp (a : Word) (s : State) : ((s.memRead16 a).2).sp = s.sp := by simp [State.memRead16]
@[simp] theorem memRead16_pc (a : Word) (s : State) : ((s.memRead16 a).2).pc = s.pc := by simp [State.memRead16]
@[simp] theorem memRead16_ie (a : Word) (s : State) : ((s.memRead16 a).2).ie = s.ie := by simp [State.memRead16]
@[simp] theorem memRead16_m75 (a : Word) (s : State) : ((s.memRead16 a).2).m75 = s.m75 := by simp [State.memRead16]
@[simp] theorem memRead16_m65 (a : Word) (s : State) : ((s.memRead16 a).2).m65 = s.m65 := by simp [State.memRead16]
@[simp] theorem memRead16_m55 (a : Word) (s : State) : ((s.memRead16 a).2).m55 = s.m55 := by simp [State.memRead16]
@[simp] theorem memRead16_i75 (a : Word) (s : State) : ((s.memRead16 a).2).i75 = s.i75 := by simp [State.memRead16]
@[simp] theorem memRead16_trapLatch (a : Word) (s : State) : ((s.memRead16 a).2).trapLatch = s.trapLatch := by simp [State.memRead16]
@[simp] theorem memRead16_sod (a : Word) (s : State) : ((s.memRead16 a).2).sod = s.sod := by simp [State.memRead16]
@[simp] theorem memRead16_halted (a : Word) (s : State) : ((s.memRead16 a).2).halted = s.halted := by simp [State.memRead16]
@[simp] theorem memRead16_eiPending (a : Word) (s : State) : ((s.memRead16 a).2).eiPending = s.eiPending := by simp [State.memRead16]
@[simp] theorem memRead16_ieAtTrap (a : Word) (s : State) : ((s.memRead16 a).2).ieAtTrap = s.ieAtTrap := by simp [State.memRead16]
@[simp] theorem memRead16_ieAtTrapValid (a : Word) (s : State) : ((s.memRead16 a).2).ieAtTrapValid = s.ieAtTrapValid := by simp [State.memRead16]
@[simp] theorem memRead16_prev75 (a : Word) (s : State) : ((s.memRead16 a).2).prev75 = s.prev75 := by simp [State.memRead16]
@[simp] theorem memRead16_prevTrap (a : Word) (s : State) : ((s.memRead16 a).2).prevTrap = s.prevTrap := by simp [State.memRead16]
@[simp] theorem memRead16_mem (a : Word) (s : State) : ((s.memRead16 a).2).mem = s.mem := by simp [State.memRead16]
@[simp] theorem memRead16_map (a : Word) (s : State) : ((s.memRead16 a).2).map = s.map := by simp [State.memRead16]
@[simp] theorem memRead16_lines (a : Word) (s : State) : ((s.memRead16 a).2).env.lines = s.env.lines := by simp [State.memRead16]
@[simp] theorem memRead16_samples (a : Word) (s : State) : ((s.memRead16 a).2).env.samples = s.env.samples := by simp [State.memRead16]

@[simp] theorem memWrite16_regs (a v : Word) (s : State) : (s.memWrite16 a v).regs = s.regs := by simp [State.memWrite16]
@[simp] theorem memWrite16_flags (a v : Word) (s : State) : (s.memWrite16 a v).flags = s.flags := by simp [State.memWrite16]
@[simp] theorem memWrite16_sp (a v : Word) (s : State) : (s.memWrite16 a v).sp = s.sp := by simp [State.memWrite16]
@[simp] theorem memWrite16_pc (a v : Word) (s : State) : (s.memWrite16 a v).pc = s.pc := by simp [State.memWrite16]
@[simp] theorem memWrite16_ie (a v : Word) (s : State) : (s.memWrite16 a v).ie = s.ie := by simp [State.memWrite16]
@[simp] theorem memWrite16_m75 (a v : Word) (s : State) : (s.memWrite16 a v).m75 = s.m75 := by simp [State.memWrite16]
@[simp] theorem memWrite16_m65 (a v : Word) (s : State) : (s.memWrite16 a v).m65 = s.m65 := by simp [State.memWrite16]
@[simp] theorem memWrite16_m55 (a v : Word) (s : State) : (s.memWrite16 a v).m55 = s.m55 := by simp [State.memWrite16]
@[simp] theorem memWrite16_i75 (a v : Word) (s : State) : (s.memWrite16 a v).i75 = s.i75 := by simp [State.memWrite16]
@[simp] theorem memWrite16_trapLatch (a v : Word) (s : State) : (s.memWrite16 a v).trapLatch = s.trapLatch := by simp [State.memWrite16]
@[simp] theorem memWrite16_sod (a v : Word) (s : State) : (s.memWrite16 a v).sod = s.sod := by simp [State.memWrite16]
@[simp] theorem memWrite16_halted (a v : Word) (s : State) : (s.memWrite16 a v).halted = s.halted := by simp [State.memWrite16]
@[simp] theorem memWrite16_eiPending (a v : Word) (s : State) : (s.memWrite16 a v).eiPending = s.eiPending := by simp [State.memWrite16]
@[simp] theorem memWrite16_ieAtTrap (a v : Word) (s : State) : (s.memWrite16 a v).ieAtTrap = s.ieAtTrap := by simp [State.memWrite16]
@[simp] theorem memWrite16_ieAtTrapValid (a v : Word) (s : State) : (s.memWrite16 a v).ieAtTrapValid = s.ieAtTrapValid := by simp [State.memWrite16]
@[simp] theorem memWrite16_prev75 (a v : Word) (s : State) : (s.memWrite16 a v).prev75 = s.prev75 := by simp [State.memWrite16]
@[simp] theorem memWrite16_prevTrap (a v : Word) (s : State) : (s.memWrite16 a v).prevTrap = s.prevTrap := by simp [State.memWrite16]
@[simp] theorem memWrite16_map (a v : Word) (s : State) : (s.memWrite16 a v).map = s.map := by simp [State.memWrite16]
@[simp] theorem memWrite16_lines (a v : Word) (s : State) : (s.memWrite16 a v).env.lines = s.env.lines := by simp [State.memWrite16]
@[simp] theorem memWrite16_samples (a v : Word) (s : State) : (s.memWrite16 a v).env.samples = s.env.samples := by simp [State.memWrite16]

@[simp] theorem opnd8_regs (o : Opnd) (s : State) : ((s.opnd8 o).2).regs = s.regs := by cases o <;> simp [State.opnd8]
@[simp] theorem opnd8_flags (o : Opnd) (s : State) : ((s.opnd8 o).2).flags = s.flags := by cases o <;> simp [State.opnd8]
@[simp] theorem opnd8_sp (o : Opnd) (s : State) : ((s.opnd8 o).2).sp = s.sp := by cases o <;> simp [State.opnd8]
@[simp] theorem opnd8_pc (o : Opnd) (s : State) : ((s.opnd8 o).2).pc = s.pc := by cases o <;> simp [State.opnd8]
@[simp] theorem opnd8_ie (o : Opnd) (s : State) : ((s.opnd8 o).2).ie = s.ie := by cases o <;> simp [State.opnd8]
@[simp] theorem opnd8_m75 (o : Opnd) (s : State) : ((s.opnd8 o).2).m75 = s.m75 := by cases o <;> simp [State.opnd8]
@[simp] theorem opnd8_m65 (o : Opnd) (s : State) : ((s.opnd8 o).2).m65 = s.m65 := by cases o <;> simp [State.opnd8]
@[simp] theorem opnd8_m55 (o : Opnd) (s : State) : ((s.opnd8 o).2).m55 = s.m55 := by cases o <;> simp [State.opnd8]
@[simp] theorem opnd8_i75 (o : Opnd) (s : State) : ((s.opnd8 o).2).i75 = s.i75 := by cases o <;> simp [State.opnd8]
@[simp] theorem opnd8_trapLatch (o : Opnd) (s : State) : ((s.opnd8 o).2).trapLatch = s.trapLatch := by cases o <;> simp [State.opnd8]
@[simp] theorem opnd8_sod (o : Opnd) (s : State) : ((s.opnd8 o).2).sod = s.sod := by cases o <;> simp [State.opnd8]
@[simp] theorem opnd8_halted (o : Opnd) (s : State) : ((s.opnd8 o).2).halted = s.halted := by cases o <;> simp [State.opnd8]
@[simp] theorem opnd8_eiPending (o : Opnd) (s : State) : ((s.opnd8 o).2).eiPending = s.eiPending := by cases o <;> simp [State.opnd8]
@[simp] theorem opnd8_ieAtTrap (o : Opnd) (s : State) : ((s.opnd8 o).2).ieAtTrap = s.ieAtTrap := by cases o <;> simp [State.opnd8]
@[simp] theorem opnd8_ieAtTrapValid (o : Opnd) (s : State) : ((s.opnd8 o).2).ieAtTrapValid = s.ieAtTrapValid := by cases o <;> simp [State.opnd8]
@[simp] theorem opnd8_prev75 (o : Opnd) (s : State) : ((s.opnd8 o).2).prev75 = s.prev75 := by cases o <;> simp [State.opnd8]
@[simp] theorem opnd8_prevTrap (o : Opnd) (s : State) : ((s.opnd8 o).2).prevTrap = s.prevTrap := by cases o <;> simp [State.opnd8]
@[simp] theorem opnd8_mem (o : Opnd) (s : State) : ((s.opnd8 o).2).mem = s.mem := by cases o <;> simp [State.opnd8]
@[simp] theorem opnd8_map (o : Opnd) (s : State) : ((s.opnd8 o).2).map = s.map := by cases o <;> simp [State.opnd8]
@[simp] theorem opnd8_lines (o : Opnd) (s : State) : ((s.opnd8 o).2).env.lines = s.env.lines := by cases o <;> simp [State.opnd8]
@[simp] theorem opnd8_samples (o : Opnd) (s : State) : ((s.opnd8 o).2).env.samples = s.env.samples := by cases o <;> simp [State.opnd8]

/-! ## The stack, calls, returns, entry -/

@[simp] theorem pushBytes_regs (hi lo : Byte) (s : State) : (s.pushBytes hi lo).regs = s.regs := by simp [State.pushBytes]
@[simp] theorem pushBytes_flags (hi lo : Byte) (s : State) : (s.pushBytes hi lo).flags = s.flags := by simp [State.pushBytes]
@[simp] theorem pushBytes_pc (hi lo : Byte) (s : State) : (s.pushBytes hi lo).pc = s.pc := by simp [State.pushBytes]
@[simp] theorem pushBytes_ie (hi lo : Byte) (s : State) : (s.pushBytes hi lo).ie = s.ie := by simp [State.pushBytes]
@[simp] theorem pushBytes_m75 (hi lo : Byte) (s : State) : (s.pushBytes hi lo).m75 = s.m75 := by simp [State.pushBytes]
@[simp] theorem pushBytes_m65 (hi lo : Byte) (s : State) : (s.pushBytes hi lo).m65 = s.m65 := by simp [State.pushBytes]
@[simp] theorem pushBytes_m55 (hi lo : Byte) (s : State) : (s.pushBytes hi lo).m55 = s.m55 := by simp [State.pushBytes]
@[simp] theorem pushBytes_i75 (hi lo : Byte) (s : State) : (s.pushBytes hi lo).i75 = s.i75 := by simp [State.pushBytes]
@[simp] theorem pushBytes_trapLatch (hi lo : Byte) (s : State) : (s.pushBytes hi lo).trapLatch = s.trapLatch := by simp [State.pushBytes]
@[simp] theorem pushBytes_sod (hi lo : Byte) (s : State) : (s.pushBytes hi lo).sod = s.sod := by simp [State.pushBytes]
@[simp] theorem pushBytes_halted (hi lo : Byte) (s : State) : (s.pushBytes hi lo).halted = s.halted := by simp [State.pushBytes]
@[simp] theorem pushBytes_eiPending (hi lo : Byte) (s : State) : (s.pushBytes hi lo).eiPending = s.eiPending := by simp [State.pushBytes]
@[simp] theorem pushBytes_ieAtTrap (hi lo : Byte) (s : State) : (s.pushBytes hi lo).ieAtTrap = s.ieAtTrap := by simp [State.pushBytes]
@[simp] theorem pushBytes_ieAtTrapValid (hi lo : Byte) (s : State) : (s.pushBytes hi lo).ieAtTrapValid = s.ieAtTrapValid := by simp [State.pushBytes]
@[simp] theorem pushBytes_prev75 (hi lo : Byte) (s : State) : (s.pushBytes hi lo).prev75 = s.prev75 := by simp [State.pushBytes]
@[simp] theorem pushBytes_prevTrap (hi lo : Byte) (s : State) : (s.pushBytes hi lo).prevTrap = s.prevTrap := by simp [State.pushBytes]
@[simp] theorem pushBytes_map (hi lo : Byte) (s : State) : (s.pushBytes hi lo).map = s.map := by simp [State.pushBytes]
@[simp] theorem pushBytes_lines (hi lo : Byte) (s : State) : (s.pushBytes hi lo).env.lines = s.env.lines := by simp [State.pushBytes]
@[simp] theorem pushBytes_samples (hi lo : Byte) (s : State) : (s.pushBytes hi lo).env.samples = s.env.samples := by simp [State.pushBytes]

@[simp] theorem push16_regs (v : Word) (s : State) : (s.push16 v).regs = s.regs := by simp [State.push16]
@[simp] theorem push16_flags (v : Word) (s : State) : (s.push16 v).flags = s.flags := by simp [State.push16]
@[simp] theorem push16_pc (v : Word) (s : State) : (s.push16 v).pc = s.pc := by simp [State.push16]
@[simp] theorem push16_ie (v : Word) (s : State) : (s.push16 v).ie = s.ie := by simp [State.push16]
@[simp] theorem push16_m75 (v : Word) (s : State) : (s.push16 v).m75 = s.m75 := by simp [State.push16]
@[simp] theorem push16_m65 (v : Word) (s : State) : (s.push16 v).m65 = s.m65 := by simp [State.push16]
@[simp] theorem push16_m55 (v : Word) (s : State) : (s.push16 v).m55 = s.m55 := by simp [State.push16]
@[simp] theorem push16_i75 (v : Word) (s : State) : (s.push16 v).i75 = s.i75 := by simp [State.push16]
@[simp] theorem push16_trapLatch (v : Word) (s : State) : (s.push16 v).trapLatch = s.trapLatch := by simp [State.push16]
@[simp] theorem push16_sod (v : Word) (s : State) : (s.push16 v).sod = s.sod := by simp [State.push16]
@[simp] theorem push16_halted (v : Word) (s : State) : (s.push16 v).halted = s.halted := by simp [State.push16]
@[simp] theorem push16_eiPending (v : Word) (s : State) : (s.push16 v).eiPending = s.eiPending := by simp [State.push16]
@[simp] theorem push16_ieAtTrap (v : Word) (s : State) : (s.push16 v).ieAtTrap = s.ieAtTrap := by simp [State.push16]
@[simp] theorem push16_ieAtTrapValid (v : Word) (s : State) : (s.push16 v).ieAtTrapValid = s.ieAtTrapValid := by simp [State.push16]
@[simp] theorem push16_prev75 (v : Word) (s : State) : (s.push16 v).prev75 = s.prev75 := by simp [State.push16]
@[simp] theorem push16_prevTrap (v : Word) (s : State) : (s.push16 v).prevTrap = s.prevTrap := by simp [State.push16]
@[simp] theorem push16_map (v : Word) (s : State) : (s.push16 v).map = s.map := by simp [State.push16]
@[simp] theorem push16_lines (v : Word) (s : State) : (s.push16 v).env.lines = s.env.lines := by simp [State.push16]
@[simp] theorem push16_samples (v : Word) (s : State) : (s.push16 v).env.samples = s.env.samples := by simp [State.push16]

@[simp] theorem pop16_regs (s : State) : (s.pop16.2).regs = s.regs := by simp [State.pop16]
@[simp] theorem pop16_flags (s : State) : (s.pop16.2).flags = s.flags := by simp [State.pop16]
@[simp] theorem pop16_pc (s : State) : (s.pop16.2).pc = s.pc := by simp [State.pop16]
@[simp] theorem pop16_ie (s : State) : (s.pop16.2).ie = s.ie := by simp [State.pop16]
@[simp] theorem pop16_m75 (s : State) : (s.pop16.2).m75 = s.m75 := by simp [State.pop16]
@[simp] theorem pop16_m65 (s : State) : (s.pop16.2).m65 = s.m65 := by simp [State.pop16]
@[simp] theorem pop16_m55 (s : State) : (s.pop16.2).m55 = s.m55 := by simp [State.pop16]
@[simp] theorem pop16_i75 (s : State) : (s.pop16.2).i75 = s.i75 := by simp [State.pop16]
@[simp] theorem pop16_trapLatch (s : State) : (s.pop16.2).trapLatch = s.trapLatch := by simp [State.pop16]
@[simp] theorem pop16_sod (s : State) : (s.pop16.2).sod = s.sod := by simp [State.pop16]
@[simp] theorem pop16_halted (s : State) : (s.pop16.2).halted = s.halted := by simp [State.pop16]
@[simp] theorem pop16_eiPending (s : State) : (s.pop16.2).eiPending = s.eiPending := by simp [State.pop16]
@[simp] theorem pop16_ieAtTrap (s : State) : (s.pop16.2).ieAtTrap = s.ieAtTrap := by simp [State.pop16]
@[simp] theorem pop16_ieAtTrapValid (s : State) : (s.pop16.2).ieAtTrapValid = s.ieAtTrapValid := by simp [State.pop16]
@[simp] theorem pop16_prev75 (s : State) : (s.pop16.2).prev75 = s.prev75 := by simp [State.pop16]
@[simp] theorem pop16_prevTrap (s : State) : (s.pop16.2).prevTrap = s.prevTrap := by simp [State.pop16]
@[simp] theorem pop16_mem (s : State) : (s.pop16.2).mem = s.mem := by simp [State.pop16]
@[simp] theorem pop16_map (s : State) : (s.pop16.2).map = s.map := by simp [State.pop16]
@[simp] theorem pop16_lines (s : State) : (s.pop16.2).env.lines = s.env.lines := by simp [State.pop16]
@[simp] theorem pop16_samples (s : State) : (s.pop16.2).env.samples = s.env.samples := by simp [State.pop16]

@[simp] theorem callTo_regs (a : Word) (s : State) : (s.callTo a).regs = s.regs := by simp [State.callTo]
@[simp] theorem callTo_flags (a : Word) (s : State) : (s.callTo a).flags = s.flags := by simp [State.callTo]
@[simp] theorem callTo_ie (a : Word) (s : State) : (s.callTo a).ie = s.ie := by simp [State.callTo]
@[simp] theorem callTo_m75 (a : Word) (s : State) : (s.callTo a).m75 = s.m75 := by simp [State.callTo]
@[simp] theorem callTo_m65 (a : Word) (s : State) : (s.callTo a).m65 = s.m65 := by simp [State.callTo]
@[simp] theorem callTo_m55 (a : Word) (s : State) : (s.callTo a).m55 = s.m55 := by simp [State.callTo]
@[simp] theorem callTo_i75 (a : Word) (s : State) : (s.callTo a).i75 = s.i75 := by simp [State.callTo]
@[simp] theorem callTo_trapLatch (a : Word) (s : State) : (s.callTo a).trapLatch = s.trapLatch := by simp [State.callTo]
@[simp] theorem callTo_sod (a : Word) (s : State) : (s.callTo a).sod = s.sod := by simp [State.callTo]
@[simp] theorem callTo_halted (a : Word) (s : State) : (s.callTo a).halted = s.halted := by simp [State.callTo]
@[simp] theorem callTo_eiPending (a : Word) (s : State) : (s.callTo a).eiPending = s.eiPending := by simp [State.callTo]
@[simp] theorem callTo_ieAtTrap (a : Word) (s : State) : (s.callTo a).ieAtTrap = s.ieAtTrap := by simp [State.callTo]
@[simp] theorem callTo_ieAtTrapValid (a : Word) (s : State) : (s.callTo a).ieAtTrapValid = s.ieAtTrapValid := by simp [State.callTo]
@[simp] theorem callTo_prev75 (a : Word) (s : State) : (s.callTo a).prev75 = s.prev75 := by simp [State.callTo]
@[simp] theorem callTo_prevTrap (a : Word) (s : State) : (s.callTo a).prevTrap = s.prevTrap := by simp [State.callTo]
@[simp] theorem callTo_map (a : Word) (s : State) : (s.callTo a).map = s.map := by simp [State.callTo]
@[simp] theorem callTo_lines (a : Word) (s : State) : (s.callTo a).env.lines = s.env.lines := by simp [State.callTo]
@[simp] theorem callTo_samples (a : Word) (s : State) : (s.callTo a).env.samples = s.env.samples := by simp [State.callTo]

@[simp] theorem returnFrom_regs (s : State) : (s.returnFrom).regs = s.regs := by simp [State.returnFrom]
@[simp] theorem returnFrom_flags (s : State) : (s.returnFrom).flags = s.flags := by simp [State.returnFrom]
@[simp] theorem returnFrom_ie (s : State) : (s.returnFrom).ie = s.ie := by simp [State.returnFrom]
@[simp] theorem returnFrom_m75 (s : State) : (s.returnFrom).m75 = s.m75 := by simp [State.returnFrom]
@[simp] theorem returnFrom_m65 (s : State) : (s.returnFrom).m65 = s.m65 := by simp [State.returnFrom]
@[simp] theorem returnFrom_m55 (s : State) : (s.returnFrom).m55 = s.m55 := by simp [State.returnFrom]
@[simp] theorem returnFrom_i75 (s : State) : (s.returnFrom).i75 = s.i75 := by simp [State.returnFrom]
@[simp] theorem returnFrom_trapLatch (s : State) : (s.returnFrom).trapLatch = s.trapLatch := by simp [State.returnFrom]
@[simp] theorem returnFrom_sod (s : State) : (s.returnFrom).sod = s.sod := by simp [State.returnFrom]
@[simp] theorem returnFrom_halted (s : State) : (s.returnFrom).halted = s.halted := by simp [State.returnFrom]
@[simp] theorem returnFrom_eiPending (s : State) : (s.returnFrom).eiPending = s.eiPending := by simp [State.returnFrom]
@[simp] theorem returnFrom_ieAtTrap (s : State) : (s.returnFrom).ieAtTrap = s.ieAtTrap := by simp [State.returnFrom]
@[simp] theorem returnFrom_ieAtTrapValid (s : State) : (s.returnFrom).ieAtTrapValid = s.ieAtTrapValid := by simp [State.returnFrom]
@[simp] theorem returnFrom_prev75 (s : State) : (s.returnFrom).prev75 = s.prev75 := by simp [State.returnFrom]
@[simp] theorem returnFrom_prevTrap (s : State) : (s.returnFrom).prevTrap = s.prevTrap := by simp [State.returnFrom]
@[simp] theorem returnFrom_mem (s : State) : (s.returnFrom).mem = s.mem := by simp [State.returnFrom]
@[simp] theorem returnFrom_map (s : State) : (s.returnFrom).map = s.map := by simp [State.returnFrom]
@[simp] theorem returnFrom_lines (s : State) : (s.returnFrom).env.lines = s.env.lines := by simp [State.returnFrom]
@[simp] theorem returnFrom_samples (s : State) : (s.returnFrom).env.samples = s.env.samples := by simp [State.returnFrom]

@[simp] theorem pushBytes_sp (hi lo : Byte) (s : State) : (s.pushBytes hi lo).sp = s.sp - 2 := rfl
@[simp] theorem push16_sp (v : Word) (s : State) : (s.push16 v).sp = s.sp - 2 := rfl
@[simp] theorem pop16_sp (s : State) : s.pop16.2.sp = s.sp + 2 := rfl
@[simp] theorem callTo_sp (a : Word) (s : State) : (s.callTo a).sp = s.sp - 2 := rfl
@[simp] theorem callTo_pc (a : Word) (s : State) : (s.callTo a).pc = a := rfl
@[simp] theorem returnFrom_sp (s : State) : s.returnFrom.sp = s.sp + 2 := rfl
@[simp] theorem returnFrom_pc (s : State) : s.returnFrom.pc = s.pop16.1 := rfl

/-! ## What a write leaves of memory -/

@[simp] theorem kindAt_memWrite (a b : Word) (v : Byte) (s : State) : (s.memWrite a v).kindAt b = s.kindAt b := by
  simp [State.kindAt]

@[simp] theorem kindAt_memRead (a b : Word) (s : State) : (s.memRead a).2.kindAt b = s.kindAt b := by
  simp [State.kindAt]

@[simp] theorem byteAt_memRead (a b : Word) (s : State) : (s.memRead a).2.byteAt b = s.byteAt b := by
  simp [State.byteAt]

/-- A write leaves every other byte of memory alone. -/
theorem byteAt_memWrite_other {a b : Word} (v : Byte) (s : State) (h : b ≠ a) :
    (s.memWrite a v).byteAt b = s.byteAt b := by
  have hn : b.toNat ≠ a.toNat := fun e => h (BitVec.eq_of_toNat_eq e)
  rcases memWrite_cases a v s with ⟨_, e⟩ | ⟨_, e⟩ | ⟨_, e⟩ <;> simp [e, State.byteAt, Memory.read_write_other _ v hn]

/-- A write leaves alone what is not RAM (20_memory.md R51). -/
theorem byteAt_memWrite_notRam {a b : Word} (v : Byte) (s : State) (h : s.kindAt b ≠ .ram) :
    (s.memWrite a v).byteAt b = s.byteAt b := by
  by_cases hb : b = a
  · subst hb
    rcases memWrite_cases b v s with ⟨hk, _⟩ | ⟨_, e⟩ | ⟨_, e⟩
    · exact absurd hk h
    · rw [e]
    · simp [e, State.byteAt]
  · exact byteAt_memWrite_other v s hb

/-- A byte written to RAM is held there, in a canonical memory. -/
theorem byteAt_memWrite_same {a : Word} (v : Byte) {s : State} (h : s.kindAt a = .ram) (hw : s.mem.wf = true) :
    (s.memWrite a v).byteAt a = v := by
  simp [memWrite_ram v h, State.byteAt, Memory.read_write_same hw]

/-- A write keeps memory canonical. -/
theorem memWrite_wf {s : State} (a : Word) (v : Byte) (h : s.mem.wf = true) : (s.memWrite a v).mem.wf = true := by
  rcases memWrite_cases a v s with ⟨_, e⟩ | ⟨_, e⟩ | ⟨_, e⟩ <;> simp [e, h, Memory.write_wf]

/-- A push keeps memory canonical. -/
theorem pushBytes_wf {s : State} (hi lo : Byte) (h : s.mem.wf = true) : (s.pushBytes hi lo).mem.wf = true := by
  simpa [State.pushBytes] using memWrite_wf _ _ (memWrite_wf _ _ h)

/-- A push leaves alone every byte but the two below SP. -/
theorem byteAt_pushBytes_other {s : State} (hi lo : Byte) {b : Word} (h1 : b ≠ s.sp - 1) (h2 : b ≠ s.sp - 2) :
    (s.pushBytes hi lo).byteAt b = s.byteAt b := by
  have e : (s.pushBytes hi lo).byteAt b = ((s.memWrite (s.sp - 1) hi).memWrite (s.sp - 2) lo).byteAt b := rfl
  rw [e, byteAt_memWrite_other _ _ h2, byteAt_memWrite_other _ _ h1]

/-- A call keeps memory canonical. -/
theorem callTo_wf {s : State} (a : Word) (h : s.mem.wf = true) : (s.callTo a).mem.wf = true := by
  simpa [State.callTo, State.push16] using pushBytes_wf _ _ h

/-- Placing a byte keeps memory canonical. -/
theorem place_wf {s : State} (a : Word) (v : Byte) (h : s.mem.wf = true) : (s.place a v).mem.wf = true :=
  Memory.write_wf h a v

/-! ## Interrupt entry -/

/-- What entry does to the source's own request (60_exceptions.md R257, R259). -/
theorem answerRequest_cases (v : Vectored) (s : State) :
    (v = .trap ∧ s.eiPending = false ∧
      s.answerRequest v = { s with ieAtTrap := s.ie, ieAtTrapValid := true, trapLatch := false }) ∨
    (v = .trap ∧ s.eiPending = true ∧
      s.answerRequest v = { s.anyBit.2 with ieAtTrap := s.anyBit.1, ieAtTrapValid := true, trapLatch := false }) ∨
    (v = .rst75 ∧ s.answerRequest v = { s with i75 := false }) ∨
    ((v = .rst65 ∨ v = .rst55) ∧ s.answerRequest v = s) := by
  cases v <;> simp [State.answerRequest]
  cases h : s.eiPending <;> simp [h]

@[simp] theorem answerRequest_regs (v : Vectored) (s : State) : (s.answerRequest v).regs = s.regs := by rcases answerRequest_cases v s with ⟨_, _, h⟩ | ⟨_, _, h⟩ | ⟨_, h⟩ | ⟨_, h⟩ <;> simp [h]
@[simp] theorem answerRequest_flags (v : Vectored) (s : State) : (s.answerRequest v).flags = s.flags := by rcases answerRequest_cases v s with ⟨_, _, h⟩ | ⟨_, _, h⟩ | ⟨_, h⟩ | ⟨_, h⟩ <;> simp [h]
@[simp] theorem answerRequest_sp (v : Vectored) (s : State) : (s.answerRequest v).sp = s.sp := by rcases answerRequest_cases v s with ⟨_, _, h⟩ | ⟨_, _, h⟩ | ⟨_, h⟩ | ⟨_, h⟩ <;> simp [h]
@[simp] theorem answerRequest_pc (v : Vectored) (s : State) : (s.answerRequest v).pc = s.pc := by rcases answerRequest_cases v s with ⟨_, _, h⟩ | ⟨_, _, h⟩ | ⟨_, h⟩ | ⟨_, h⟩ <;> simp [h]
@[simp] theorem answerRequest_ie (v : Vectored) (s : State) : (s.answerRequest v).ie = s.ie := by rcases answerRequest_cases v s with ⟨_, _, h⟩ | ⟨_, _, h⟩ | ⟨_, h⟩ | ⟨_, h⟩ <;> simp [h]
@[simp] theorem answerRequest_m75 (v : Vectored) (s : State) : (s.answerRequest v).m75 = s.m75 := by rcases answerRequest_cases v s with ⟨_, _, h⟩ | ⟨_, _, h⟩ | ⟨_, h⟩ | ⟨_, h⟩ <;> simp [h]
@[simp] theorem answerRequest_m65 (v : Vectored) (s : State) : (s.answerRequest v).m65 = s.m65 := by rcases answerRequest_cases v s with ⟨_, _, h⟩ | ⟨_, _, h⟩ | ⟨_, h⟩ | ⟨_, h⟩ <;> simp [h]
@[simp] theorem answerRequest_m55 (v : Vectored) (s : State) : (s.answerRequest v).m55 = s.m55 := by rcases answerRequest_cases v s with ⟨_, _, h⟩ | ⟨_, _, h⟩ | ⟨_, h⟩ | ⟨_, h⟩ <;> simp [h]
@[simp] theorem answerRequest_sod (v : Vectored) (s : State) : (s.answerRequest v).sod = s.sod := by rcases answerRequest_cases v s with ⟨_, _, h⟩ | ⟨_, _, h⟩ | ⟨_, h⟩ | ⟨_, h⟩ <;> simp [h]
@[simp] theorem answerRequest_halted (v : Vectored) (s : State) : (s.answerRequest v).halted = s.halted := by rcases answerRequest_cases v s with ⟨_, _, h⟩ | ⟨_, _, h⟩ | ⟨_, h⟩ | ⟨_, h⟩ <;> simp [h]
@[simp] theorem answerRequest_eiPending (v : Vectored) (s : State) : (s.answerRequest v).eiPending = s.eiPending := by rcases answerRequest_cases v s with ⟨_, _, h⟩ | ⟨_, _, h⟩ | ⟨_, h⟩ | ⟨_, h⟩ <;> simp [h]
@[simp] theorem answerRequest_prev75 (v : Vectored) (s : State) : (s.answerRequest v).prev75 = s.prev75 := by rcases answerRequest_cases v s with ⟨_, _, h⟩ | ⟨_, _, h⟩ | ⟨_, h⟩ | ⟨_, h⟩ <;> simp [h]
@[simp] theorem answerRequest_prevTrap (v : Vectored) (s : State) : (s.answerRequest v).prevTrap = s.prevTrap := by rcases answerRequest_cases v s with ⟨_, _, h⟩ | ⟨_, _, h⟩ | ⟨_, h⟩ | ⟨_, h⟩ <;> simp [h]
@[simp] theorem answerRequest_mem (v : Vectored) (s : State) : (s.answerRequest v).mem = s.mem := by rcases answerRequest_cases v s with ⟨_, _, h⟩ | ⟨_, _, h⟩ | ⟨_, h⟩ | ⟨_, h⟩ <;> simp [h]
@[simp] theorem answerRequest_map (v : Vectored) (s : State) : (s.answerRequest v).map = s.map := by rcases answerRequest_cases v s with ⟨_, _, h⟩ | ⟨_, _, h⟩ | ⟨_, h⟩ | ⟨_, h⟩ <;> simp [h]
@[simp] theorem answerRequest_lines (v : Vectored) (s : State) : (s.answerRequest v).env.lines = s.env.lines := by rcases answerRequest_cases v s with ⟨_, _, h⟩ | ⟨_, _, h⟩ | ⟨_, h⟩ | ⟨_, h⟩ <;> simp [h]
@[simp] theorem answerRequest_samples (v : Vectored) (s : State) : (s.answerRequest v).env.samples = s.env.samples := by rcases answerRequest_cases v s with ⟨_, _, h⟩ | ⟨_, _, h⟩ | ⟨_, h⟩ | ⟨_, h⟩ <;> simp [h]

@[simp] theorem takeInterrupt_regs (v : Vectored) (s : State) : (s.takeInterrupt v).regs = s.regs := by simp [State.takeInterrupt]
@[simp] theorem takeInterrupt_flags (v : Vectored) (s : State) : (s.takeInterrupt v).flags = s.flags := by simp [State.takeInterrupt]
@[simp] theorem takeInterrupt_m75 (v : Vectored) (s : State) : (s.takeInterrupt v).m75 = s.m75 := by simp [State.takeInterrupt]
@[simp] theorem takeInterrupt_m65 (v : Vectored) (s : State) : (s.takeInterrupt v).m65 = s.m65 := by simp [State.takeInterrupt]
@[simp] theorem takeInterrupt_m55 (v : Vectored) (s : State) : (s.takeInterrupt v).m55 = s.m55 := by simp [State.takeInterrupt]
@[simp] theorem takeInterrupt_sod (v : Vectored) (s : State) : (s.takeInterrupt v).sod = s.sod := by simp [State.takeInterrupt]
@[simp] theorem takeInterrupt_prev75 (v : Vectored) (s : State) : (s.takeInterrupt v).prev75 = s.prev75 := by simp [State.takeInterrupt]
@[simp] theorem takeInterrupt_prevTrap (v : Vectored) (s : State) : (s.takeInterrupt v).prevTrap = s.prevTrap := by simp [State.takeInterrupt]
@[simp] theorem takeInterrupt_map (v : Vectored) (s : State) : (s.takeInterrupt v).map = s.map := by simp [State.takeInterrupt]
@[simp] theorem takeInterrupt_lines (v : Vectored) (s : State) : (s.takeInterrupt v).env.lines = s.env.lines := by simp [State.takeInterrupt]
@[simp] theorem takeInterrupt_samples (v : Vectored) (s : State) : (s.takeInterrupt v).env.samples = s.env.samples := by simp [State.takeInterrupt]

end Sys2Proof.Machine
end

