-- ==== Sys2Proof/Laws/PerInstr.lean ====
section
/-! SUPPORT. One lemma per constructor of Instr: the encoding of an instruction has one to three bytes, and the format of
its first byte has exactly that length (spec/30_encoding.md R80, R83); an undefined value has one byte and no length
(R90). -/

namespace Sys2Proof.Laws

/-- The encoding of the instruction is a byte 1 whose format's length is the number of bytes encoded. -/
def EncodeLength.Statement (i : Instr) : Prop :=
  (i.wellFormed = true → ((encode i).head?.bind fun op => (formatOf op).length) = some (encode i).length) ∧
  (i.wellFormed = false → ((encode i).head?.bind fun op => (formatOf op).length) = none)

theorem EncodeLength.nop : EncodeLength.Statement .nop := ⟨fun _ => rfl, nofun⟩
theorem EncodeLength.lxiB (dble : Word) : EncodeLength.Statement (.lxiB dble) := ⟨fun _ => rfl, nofun⟩
theorem EncodeLength.staxB : EncodeLength.Statement .staxB := ⟨fun _ => rfl, nofun⟩
theorem EncodeLength.inxB : EncodeLength.Statement .inxB := ⟨fun _ => rfl, nofun⟩
theorem EncodeLength.inrB : EncodeLength.Statement .inrB := ⟨fun _ => rfl, nofun⟩
theorem EncodeLength.dcrB : EncodeLength.Statement .dcrB := ⟨fun _ => rfl, nofun⟩
theorem EncodeLength.mviB (byte : Byte) : EncodeLength.Statement (.mviB byte) := ⟨fun _ => rfl, nofun⟩
theorem EncodeLength.rlc : EncodeLength.Statement .rlc := ⟨fun _ => rfl, nofun⟩
theorem EncodeLength.undef08 : EncodeLength.Statement .undef08 := ⟨nofun, fun _ => rfl⟩
theorem EncodeLength.dadB : EncodeLength.Statement .dadB := ⟨fun _ => rfl, nofun⟩
theorem EncodeLength.ldaxB : EncodeLength.Statement .ldaxB := ⟨fun _ => rfl, nofun⟩
theorem EncodeLength.dcxB : EncodeLength.Statement .dcxB := ⟨fun _ => rfl, nofun⟩
theorem EncodeLength.inrC : EncodeLength.Statement .inrC := ⟨fun _ => rfl, nofun⟩
theorem EncodeLength.dcrC : EncodeLength.Statement .dcrC := ⟨fun _ => rfl, nofun⟩
theorem EncodeLength.mviC (byte : Byte) : EncodeLength.Statement (.mviC byte) := ⟨fun _ => rfl, nofun⟩
theorem EncodeLength.rrc : EncodeLength.Statement .rrc := ⟨fun _ => rfl, nofun⟩
theorem EncodeLength.undef10 : EncodeLength.Statement .undef10 := ⟨nofun, fun _ => rfl⟩
theorem EncodeLength.lxiD (dble : Word) : EncodeLength.Statement (.lxiD dble) := ⟨fun _ => rfl, nofun⟩
theorem EncodeLength.staxD : EncodeLength.Statement .staxD := ⟨fun _ => rfl, nofun⟩
theorem EncodeLength.inxD : EncodeLength.Statement .inxD := ⟨fun _ => rfl, nofun⟩
theorem EncodeLength.inrD : EncodeLength.Statement .inrD := ⟨fun _ => rfl, nofun⟩
theorem EncodeLength.dcrD : EncodeLength.Statement .dcrD := ⟨fun _ => rfl, nofun⟩
theorem EncodeLength.mviD (byte : Byte) : EncodeLength.Statement (.mviD byte) := ⟨fun _ => rfl, nofun⟩
theorem EncodeLength.ral : EncodeLength.Statement .ral := ⟨fun _ => rfl, nofun⟩
theorem EncodeLength.undef18 : EncodeLength.Statement .undef18 := ⟨nofun, fun _ => rfl⟩
theorem EncodeLength.dadD : EncodeLength.Statement .dadD := ⟨fun _ => rfl, nofun⟩
theorem EncodeLength.ldaxD : EncodeLength.Statement .ldaxD := ⟨fun _ => rfl, nofun⟩
theorem EncodeLength.dcxD : EncodeLength.Statement .dcxD := ⟨fun _ => rfl, nofun⟩
theorem EncodeLength.inrE : EncodeLength.Statement .inrE := ⟨fun _ => rfl, nofun⟩
theorem EncodeLength.dcrE : EncodeLength.Statement .dcrE := ⟨fun _ => rfl, nofun⟩
theorem EncodeLength.mviE (byte : Byte) : EncodeLength.Statement (.mviE byte) := ⟨fun _ => rfl, nofun⟩
theorem EncodeLength.rar : EncodeLength.Statement .rar := ⟨fun _ => rfl, nofun⟩
theorem EncodeLength.rim : EncodeLength.Statement .rim := ⟨fun _ => rfl, nofun⟩
theorem EncodeLength.lxiH (dble : Word) : EncodeLength.Statement (.lxiH dble) := ⟨fun _ => rfl, nofun⟩
theorem EncodeLength.shld (adr : Word) : EncodeLength.Statement (.shld adr) := ⟨fun _ => rfl, nofun⟩
theorem EncodeLength.inxH : EncodeLength.Statement .inxH := ⟨fun _ => rfl, nofun⟩
theorem EncodeLength.inrH : EncodeLength.Statement .inrH := ⟨fun _ => rfl, nofun⟩
theorem EncodeLength.dcrH : EncodeLength.Statement .dcrH := ⟨fun _ => rfl, nofun⟩
theorem EncodeLength.mviH (byte : Byte) : EncodeLength.Statement (.mviH byte) := ⟨fun _ => rfl, nofun⟩
theorem EncodeLength.daa : EncodeLength.Statement .daa := ⟨fun _ => rfl, nofun⟩
theorem EncodeLength.undef28 : EncodeLength.Statement .undef28 := ⟨nofun, fun _ => rfl⟩
theorem EncodeLength.dadH : EncodeLength.Statement .dadH := ⟨fun _ => rfl, nofun⟩
theorem EncodeLength.lhld (adr : Word) : EncodeLength.Statement (.lhld adr) := ⟨fun _ => rfl, nofun⟩
theorem EncodeLength.dcxH : EncodeLength.Statement .dcxH := ⟨fun _ => rfl, nofun⟩
theorem EncodeLength.inrL : EncodeLength.Statement .inrL := ⟨fun _ => rfl, nofun⟩
theorem EncodeLength.dcrL : EncodeLength.Statement .dcrL := ⟨fun _ => rfl, nofun⟩
theorem EncodeLength.mviL (byte : Byte) : EncodeLength.Statement (.mviL byte) := ⟨fun _ => rfl, nofun⟩
theorem EncodeLength.cma : EncodeLength.Statement .cma := ⟨fun _ => rfl, nofun⟩
theorem EncodeLength.sim : EncodeLength.Statement .sim := ⟨fun _ => rfl, nofun⟩
theorem EncodeLength.lxiSP (dble : Word) : EncodeLength.Statement (.lxiSP dble) := ⟨fun _ => rfl, nofun⟩
theorem EncodeLength.sta (adr : Word) : EncodeLength.Statement (.sta adr) := ⟨fun _ => rfl, nofun⟩
theorem EncodeLength.inxSP : EncodeLength.Statement .inxSP := ⟨fun _ => rfl, nofun⟩
theorem EncodeLength.inrM : EncodeLength.Statement .inrM := ⟨fun _ => rfl, nofun⟩
theorem EncodeLength.dcrM : EncodeLength.Statement .dcrM := ⟨fun _ => rfl, nofun⟩
theorem EncodeLength.mviM (byte : Byte) : EncodeLength.Statement (.mviM byte) := ⟨fun _ => rfl, nofun⟩
theorem EncodeLength.stc : EncodeLength.Statement .stc := ⟨fun _ => rfl, nofun⟩
theorem EncodeLength.undef38 : EncodeLength.Statement .undef38 := ⟨nofun, fun _ => rfl⟩
theorem EncodeLength.dadSP : EncodeLength.Statement .dadSP := ⟨fun _ => rfl, nofun⟩
theorem EncodeLength.lda (adr : Word) : EncodeLength.Statement (.lda adr) := ⟨fun _ => rfl, nofun⟩
theorem EncodeLength.dcxSP : EncodeLength.Statement .dcxSP := ⟨fun _ => rfl, nofun⟩
theorem EncodeLength.inrA : EncodeLength.Statement .inrA := ⟨fun _ => rfl, nofun⟩
theorem EncodeLength.dcrA : EncodeLength.Statement .dcrA := ⟨fun _ => rfl, nofun⟩
theorem EncodeLength.mviA (byte : Byte) : EncodeLength.Statement (.mviA byte) := ⟨fun _ => rfl, nofun⟩
theorem EncodeLength.cmc : EncodeLength.Statement .cmc := ⟨fun _ => rfl, nofun⟩
theorem EncodeLength.movBB : EncodeLength.Statement .movBB := ⟨fun _ => rfl, nofun⟩
theorem EncodeLength.movBC : EncodeLength.Statement .movBC := ⟨fun _ => rfl, nofun⟩
theorem EncodeLength.movBD : EncodeLength.Statement .movBD := ⟨fun _ => rfl, nofun⟩
theorem EncodeLength.movBE : EncodeLength.Statement .movBE := ⟨fun _ => rfl, nofun⟩
theorem EncodeLength.movBH : EncodeLength.Statement .movBH := ⟨fun _ => rfl, nofun⟩
theorem EncodeLength.movBL : EncodeLength.Statement .movBL := ⟨fun _ => rfl, nofun⟩
theorem EncodeLength.movBM : EncodeLength.Statement .movBM := ⟨fun _ => rfl, nofun⟩
theorem EncodeLength.movBA : EncodeLength.Statement .movBA := ⟨fun _ => rfl, nofun⟩
theorem EncodeLength.movCB : EncodeLength.Statement .movCB := ⟨fun _ => rfl, nofun⟩
theorem EncodeLength.movCC : EncodeLength.Statement .movCC := ⟨fun _ => rfl, nofun⟩
theorem EncodeLength.movCD : EncodeLength.Statement .movCD := ⟨fun _ => rfl, nofun⟩
theorem EncodeLength.movCE : EncodeLength.Statement .movCE := ⟨fun _ => rfl, nofun⟩
theorem EncodeLength.movCH : EncodeLength.Statement .movCH := ⟨fun _ => rfl, nofun⟩
theorem EncodeLength.movCL : EncodeLength.Statement .movCL := ⟨fun _ => rfl, nofun⟩
theorem EncodeLength.movCM : EncodeLength.Statement .movCM := ⟨fun _ => rfl, nofun⟩
theorem EncodeLength.movCA : EncodeLength.Statement .movCA := ⟨fun _ => rfl, nofun⟩
theorem EncodeLength.movDB : EncodeLength.Statement .movDB := ⟨fun _ => rfl, nofun⟩
theorem EncodeLength.movDC : EncodeLength.Statement .movDC := ⟨fun _ => rfl, nofun⟩
theorem EncodeLength.movDD : EncodeLength.Statement .movDD := ⟨fun _ => rfl, nofun⟩
theorem EncodeLength.movDE : EncodeLength.Statement .movDE := ⟨fun _ => rfl, nofun⟩
theorem EncodeLength.movDH : EncodeLength.Statement .movDH := ⟨fun _ => rfl, nofun⟩
theorem EncodeLength.movDL : EncodeLength.Statement .movDL := ⟨fun _ => rfl, nofun⟩
theorem EncodeLength.movDM : EncodeLength.Statement .movDM := ⟨fun _ => rfl, nofun⟩
theorem EncodeLength.movDA : EncodeLength.Statement .movDA := ⟨fun _ => rfl, nofun⟩
theorem EncodeLength.movEB : EncodeLength.Statement .movEB := ⟨fun _ => rfl, nofun⟩
theorem EncodeLength.movEC : EncodeLength.Statement .movEC := ⟨fun _ => rfl, nofun⟩
theorem EncodeLength.movED : EncodeLength.Statement .movED := ⟨fun _ => rfl, nofun⟩
theorem EncodeLength.movEE : EncodeLength.Statement .movEE := ⟨fun _ => rfl, nofun⟩
theorem EncodeLength.movEH : EncodeLength.Statement .movEH := ⟨fun _ => rfl, nofun⟩
theorem EncodeLength.movEL : EncodeLength.Statement .movEL := ⟨fun _ => rfl, nofun⟩
theorem EncodeLength.movEM : EncodeLength.Statement .movEM := ⟨fun _ => rfl, nofun⟩
theorem EncodeLength.movEA : EncodeLength.Statement .movEA := ⟨fun _ => rfl, nofun⟩
theorem EncodeLength.movHB : EncodeLength.Statement .movHB := ⟨fun _ => rfl, nofun⟩
theorem EncodeLength.movHC : EncodeLength.Statement .movHC := ⟨fun _ => rfl, nofun⟩
theorem EncodeLength.movHD : EncodeLength.Statement .movHD := ⟨fun _ => rfl, nofun⟩
theorem EncodeLength.movHE : EncodeLength.Statement .movHE := ⟨fun _ => rfl, nofun⟩
theorem EncodeLength.movHH : EncodeLength.Statement .movHH := ⟨fun _ => rfl, nofun⟩
theorem EncodeLength.movHL : EncodeLength.Statement .movHL := ⟨fun _ => rfl, nofun⟩
theorem EncodeLength.movHM : EncodeLength.Statement .movHM := ⟨fun _ => rfl, nofun⟩
theorem EncodeLength.movHA : EncodeLength.Statement .movHA := ⟨fun _ => rfl, nofun⟩
theorem EncodeLength.movLB : EncodeLength.Statement .movLB := ⟨fun _ => rfl, nofun⟩
theorem EncodeLength.movLC : EncodeLength.Statement .movLC := ⟨fun _ => rfl, nofun⟩
theorem EncodeLength.movLD : EncodeLength.Statement .movLD := ⟨fun _ => rfl, nofun⟩
theorem EncodeLength.movLE : EncodeLength.Statement .movLE := ⟨fun _ => rfl, nofun⟩
theorem EncodeLength.movLH : EncodeLength.Statement .movLH := ⟨fun _ => rfl, nofun⟩
theorem EncodeLength.movLL : EncodeLength.Statement .movLL := ⟨fun _ => rfl, nofun⟩
theorem EncodeLength.movLM : EncodeLength.Statement .movLM := ⟨fun _ => rfl, nofun⟩
theorem EncodeLength.movLA : EncodeLength.Statement .movLA := ⟨fun _ => rfl, nofun⟩
theorem EncodeLength.movMB : EncodeLength.Statement .movMB := ⟨fun _ => rfl, nofun⟩
theorem EncodeLength.movMC : EncodeLength.Statement .movMC := ⟨fun _ => rfl, nofun⟩
theorem EncodeLength.movMD : EncodeLength.Statement .movMD := ⟨fun _ => rfl, nofun⟩
theorem EncodeLength.movME : EncodeLength.Statement .movME := ⟨fun _ => rfl, nofun⟩
theorem EncodeLength.movMH : EncodeLength.Statement .movMH := ⟨fun _ => rfl, nofun⟩
theorem EncodeLength.movML : EncodeLength.Statement .movML := ⟨fun _ => rfl, nofun⟩
theorem EncodeLength.hlt : EncodeLength.Statement .hlt := ⟨fun _ => rfl, nofun⟩
theorem EncodeLength.movMA : EncodeLength.Statement .movMA := ⟨fun _ => rfl, nofun⟩
theorem EncodeLength.movAB : EncodeLength.Statement .movAB := ⟨fun _ => rfl, nofun⟩
theorem EncodeLength.movAC : EncodeLength.Statement .movAC := ⟨fun _ => rfl, nofun⟩
theorem EncodeLength.movAD : EncodeLength.Statement .movAD := ⟨fun _ => rfl, nofun⟩
theorem EncodeLength.movAE : EncodeLength.Statement .movAE := ⟨fun _ => rfl, nofun⟩
theorem EncodeLength.movAH : EncodeLength.Statement .movAH := ⟨fun _ => rfl, nofun⟩
theorem EncodeLength.movAL : EncodeLength.Statement .movAL := ⟨fun _ => rfl, nofun⟩
theorem EncodeLength.movAM : EncodeLength.Statement .movAM := ⟨fun _ => rfl, nofun⟩
theorem EncodeLength.movAA : EncodeLength.Statement .movAA := ⟨fun _ => rfl, nofun⟩
theorem EncodeLength.addB : EncodeLength.Statement .addB := ⟨fun _ => rfl, nofun⟩
theorem EncodeLength.addC : EncodeLength.Statement .addC := ⟨fun _ => rfl, nofun⟩
theorem EncodeLength.addD : EncodeLength.Statement .addD := ⟨fun _ => rfl, nofun⟩
theorem EncodeLength.addE : EncodeLength.Statement .addE := ⟨fun _ => rfl, nofun⟩
theorem EncodeLength.addH : EncodeLength.Statement .addH := ⟨fun _ => rfl, nofun⟩
theorem EncodeLength.addL : EncodeLength.Statement .addL := ⟨fun _ => rfl, nofun⟩
theorem EncodeLength.addM : EncodeLength.Statement .addM := ⟨fun _ => rfl, nofun⟩
theorem EncodeLength.addA : EncodeLength.Statement .addA := ⟨fun _ => rfl, nofun⟩
theorem EncodeLength.adcB : EncodeLength.Statement .adcB := ⟨fun _ => rfl, nofun⟩
theorem EncodeLength.adcC : EncodeLength.Statement .adcC := ⟨fun _ => rfl, nofun⟩
theorem EncodeLength.adcD : EncodeLength.Statement .adcD := ⟨fun _ => rfl, nofun⟩
theorem EncodeLength.adcE : EncodeLength.Statement .adcE := ⟨fun _ => rfl, nofun⟩
theorem EncodeLength.adcH : EncodeLength.Statement .adcH := ⟨fun _ => rfl, nofun⟩
theorem EncodeLength.adcL : EncodeLength.Statement .adcL := ⟨fun _ => rfl, nofun⟩
theorem EncodeLength.adcM : EncodeLength.Statement .adcM := ⟨fun _ => rfl, nofun⟩
theorem EncodeLength.adcA : EncodeLength.Statement .adcA := ⟨fun _ => rfl, nofun⟩
theorem EncodeLength.subB : EncodeLength.Statement .subB := ⟨fun _ => rfl, nofun⟩
theorem EncodeLength.subC : EncodeLength.Statement .subC := ⟨fun _ => rfl, nofun⟩
theorem EncodeLength.subD : EncodeLength.Statement .subD := ⟨fun _ => rfl, nofun⟩
theorem EncodeLength.subE : EncodeLength.Statement .subE := ⟨fun _ => rfl, nofun⟩
theorem EncodeLength.subH : EncodeLength.Statement .subH := ⟨fun _ => rfl, nofun⟩
theorem EncodeLength.subL : EncodeLength.Statement .subL := ⟨fun _ => rfl, nofun⟩
theorem EncodeLength.subM : EncodeLength.Statement .subM := ⟨fun _ => rfl, nofun⟩
theorem EncodeLength.subA : EncodeLength.Statement .subA := ⟨fun _ => rfl, nofun⟩
theorem EncodeLength.sbbB : EncodeLength.Statement .sbbB := ⟨fun _ => rfl, nofun⟩
theorem EncodeLength.sbbC : EncodeLength.Statement .sbbC := ⟨fun _ => rfl, nofun⟩
theorem EncodeLength.sbbD : EncodeLength.Statement .sbbD := ⟨fun _ => rfl, nofun⟩
theorem EncodeLength.sbbE : EncodeLength.Statement .sbbE := ⟨fun _ => rfl, nofun⟩
theorem EncodeLength.sbbH : EncodeLength.Statement .sbbH := ⟨fun _ => rfl, nofun⟩
theorem EncodeLength.sbbL : EncodeLength.Statement .sbbL := ⟨fun _ => rfl, nofun⟩
theorem EncodeLength.sbbM : EncodeLength.Statement .sbbM := ⟨fun _ => rfl, nofun⟩
theorem EncodeLength.sbbA : EncodeLength.Statement .sbbA := ⟨fun _ => rfl, nofun⟩
theorem EncodeLength.anaB : EncodeLength.Statement .anaB := ⟨fun _ => rfl, nofun⟩
theorem EncodeLength.anaC : EncodeLength.Statement .anaC := ⟨fun _ => rfl, nofun⟩
theorem EncodeLength.anaD : EncodeLength.Statement .anaD := ⟨fun _ => rfl, nofun⟩
theorem EncodeLength.anaE : EncodeLength.Statement .anaE := ⟨fun _ => rfl, nofun⟩
theorem EncodeLength.anaH : EncodeLength.Statement .anaH := ⟨fun _ => rfl, nofun⟩
theorem EncodeLength.anaL : EncodeLength.Statement .anaL := ⟨fun _ => rfl, nofun⟩
theorem EncodeLength.anaM : EncodeLength.Statement .anaM := ⟨fun _ => rfl, nofun⟩
theorem EncodeLength.anaA : EncodeLength.Statement .anaA := ⟨fun _ => rfl, nofun⟩
theorem EncodeLength.xraB : EncodeLength.Statement .xraB := ⟨fun _ => rfl, nofun⟩
theorem EncodeLength.xraC : EncodeLength.Statement .xraC := ⟨fun _ => rfl, nofun⟩
theorem EncodeLength.xraD : EncodeLength.Statement .xraD := ⟨fun _ => rfl, nofun⟩
theorem EncodeLength.xraE : EncodeLength.Statement .xraE := ⟨fun _ => rfl, nofun⟩
theorem EncodeLength.xraH : EncodeLength.Statement .xraH := ⟨fun _ => rfl, nofun⟩
theorem EncodeLength.xraL : EncodeLength.Statement .xraL := ⟨fun _ => rfl, nofun⟩
theorem EncodeLength.xraM : EncodeLength.Statement .xraM := ⟨fun _ => rfl, nofun⟩
theorem EncodeLength.xraA : EncodeLength.Statement .xraA := ⟨fun _ => rfl, nofun⟩
theorem EncodeLength.oraB : EncodeLength.Statement .oraB := ⟨fun _ => rfl, nofun⟩
theorem EncodeLength.oraC : EncodeLength.Statement .oraC := ⟨fun _ => rfl, nofun⟩
theorem EncodeLength.oraD : EncodeLength.Statement .oraD := ⟨fun _ => rfl, nofun⟩
theorem EncodeLength.oraE : EncodeLength.Statement .oraE := ⟨fun _ => rfl, nofun⟩
theorem EncodeLength.oraH : EncodeLength.Statement .oraH := ⟨fun _ => rfl, nofun⟩
theorem EncodeLength.oraL : EncodeLength.Statement .oraL := ⟨fun _ => rfl, nofun⟩
theorem EncodeLength.oraM : EncodeLength.Statement .oraM := ⟨fun _ => rfl, nofun⟩
theorem EncodeLength.oraA : EncodeLength.Statement .oraA := ⟨fun _ => rfl, nofun⟩
theorem EncodeLength.cmpB : EncodeLength.Statement .cmpB := ⟨fun _ => rfl, nofun⟩
theorem EncodeLength.cmpC : EncodeLength.Statement .cmpC := ⟨fun _ => rfl, nofun⟩
theorem EncodeLength.cmpD : EncodeLength.Statement .cmpD := ⟨fun _ => rfl, nofun⟩
theorem EncodeLength.cmpE : EncodeLength.Statement .cmpE := ⟨fun _ => rfl, nofun⟩
theorem EncodeLength.cmpH : EncodeLength.Statement .cmpH := ⟨fun _ => rfl, nofun⟩
theorem EncodeLength.cmpL : EncodeLength.Statement .cmpL := ⟨fun _ => rfl, nofun⟩
theorem EncodeLength.cmpM : EncodeLength.Statement .cmpM := ⟨fun _ => rfl, nofun⟩
theorem EncodeLength.cmpA : EncodeLength.Statement .cmpA := ⟨fun _ => rfl, nofun⟩
theorem EncodeLength.rnz : EncodeLength.Statement .rnz := ⟨fun _ => rfl, nofun⟩
theorem EncodeLength.popB : EncodeLength.Statement .popB := ⟨fun _ => rfl, nofun⟩
theorem EncodeLength.jnz (adr : Word) : EncodeLength.Statement (.jnz adr) := ⟨fun _ => rfl, nofun⟩
theorem EncodeLength.jmp (adr : Word) : EncodeLength.Statement (.jmp adr) := ⟨fun _ => rfl, nofun⟩
theorem EncodeLength.cnz (adr : Word) : EncodeLength.Statement (.cnz adr) := ⟨fun _ => rfl, nofun⟩
theorem EncodeLength.pushB : EncodeLength.Statement .pushB := ⟨fun _ => rfl, nofun⟩
theorem EncodeLength.adi (byte : Byte) : EncodeLength.Statement (.adi byte) := ⟨fun _ => rfl, nofun⟩
theorem EncodeLength.rst0 : EncodeLength.Statement .rst0 := ⟨fun _ => rfl, nofun⟩
theorem EncodeLength.rz : EncodeLength.Statement .rz := ⟨fun _ => rfl, nofun⟩
theorem EncodeLength.ret : EncodeLength.Statement .ret := ⟨fun _ => rfl, nofun⟩
theorem EncodeLength.jz (adr : Word) : EncodeLength.Statement (.jz adr) := ⟨fun _ => rfl, nofun⟩
theorem EncodeLength.undefCB : EncodeLength.Statement .undefCB := ⟨nofun, fun _ => rfl⟩
theorem EncodeLength.cz (adr : Word) : EncodeLength.Statement (.cz adr) := ⟨fun _ => rfl, nofun⟩
theorem EncodeLength.call (adr : Word) : EncodeLength.Statement (.call adr) := ⟨fun _ => rfl, nofun⟩
theorem EncodeLength.aci (byte : Byte) : EncodeLength.Statement (.aci byte) := ⟨fun _ => rfl, nofun⟩
theorem EncodeLength.rst1 : EncodeLength.Statement .rst1 := ⟨fun _ => rfl, nofun⟩
theorem EncodeLength.rnc : EncodeLength.Statement .rnc := ⟨fun _ => rfl, nofun⟩
theorem EncodeLength.popD : EncodeLength.Statement .popD := ⟨fun _ => rfl, nofun⟩
theorem EncodeLength.jnc (adr : Word) : EncodeLength.Statement (.jnc adr) := ⟨fun _ => rfl, nofun⟩
theorem EncodeLength.outPort (port : Byte) : EncodeLength.Statement (.outPort port) := ⟨fun _ => rfl, nofun⟩
theorem EncodeLength.cnc (adr : Word) : EncodeLength.Statement (.cnc adr) := ⟨fun _ => rfl, nofun⟩
theorem EncodeLength.pushD : EncodeLength.Statement .pushD := ⟨fun _ => rfl, nofun⟩
theorem EncodeLength.sui (byte : Byte) : EncodeLength.Statement (.sui byte) := ⟨fun _ => rfl, nofun⟩
theorem EncodeLength.rst2 : EncodeLength.Statement .rst2 := ⟨fun _ => rfl, nofun⟩
theorem EncodeLength.rc : EncodeLength.Statement .rc := ⟨fun _ => rfl, nofun⟩
theorem EncodeLength.undefD9 : EncodeLength.Statement .undefD9 := ⟨nofun, fun _ => rfl⟩
theorem EncodeLength.jc (adr : Word) : EncodeLength.Statement (.jc adr) := ⟨fun _ => rfl, nofun⟩
theorem EncodeLength.inPort (port : Byte) : EncodeLength.Statement (.inPort port) := ⟨fun _ => rfl, nofun⟩
theorem EncodeLength.cc (adr : Word) : EncodeLength.Statement (.cc adr) := ⟨fun _ => rfl, nofun⟩
theorem EncodeLength.undefDD : EncodeLength.Statement .undefDD := ⟨nofun, fun _ => rfl⟩
theorem EncodeLength.sbi (byte : Byte) : EncodeLength.Statement (.sbi byte) := ⟨fun _ => rfl, nofun⟩
theorem EncodeLength.rst3 : EncodeLength.Statement .rst3 := ⟨fun _ => rfl, nofun⟩
theorem EncodeLength.rpo : EncodeLength.Statement .rpo := ⟨fun _ => rfl, nofun⟩
theorem EncodeLength.popH : EncodeLength.Statement .popH := ⟨fun _ => rfl, nofun⟩
theorem EncodeLength.jpo (adr : Word) : EncodeLength.Statement (.jpo adr) := ⟨fun _ => rfl, nofun⟩
theorem EncodeLength.xthl : EncodeLength.Statement .xthl := ⟨fun _ => rfl, nofun⟩
theorem EncodeLength.cpo (adr : Word) : EncodeLength.Statement (.cpo adr) := ⟨fun _ => rfl, nofun⟩
theorem EncodeLength.pushH : EncodeLength.Statement .pushH := ⟨fun _ => rfl, nofun⟩
theorem EncodeLength.ani (byte : Byte) : EncodeLength.Statement (.ani byte) := ⟨fun _ => rfl, nofun⟩
theorem EncodeLength.rst4 : EncodeLength.Statement .rst4 := ⟨fun _ => rfl, nofun⟩
theorem EncodeLength.rpe : EncodeLength.Statement .rpe := ⟨fun _ => rfl, nofun⟩
theorem EncodeLength.pchl : EncodeLength.Statement .pchl := ⟨fun _ => rfl, nofun⟩
theorem EncodeLength.jpe (adr : Word) : EncodeLength.Statement (.jpe adr) := ⟨fun _ => rfl, nofun⟩
theorem EncodeLength.xchg : EncodeLength.Statement .xchg := ⟨fun _ => rfl, nofun⟩
theorem EncodeLength.cpe (adr : Word) : EncodeLength.Statement (.cpe adr) := ⟨fun _ => rfl, nofun⟩
theorem EncodeLength.undefED : EncodeLength.Statement .undefED := ⟨nofun, fun _ => rfl⟩
theorem EncodeLength.xri (byte : Byte) : EncodeLength.Statement (.xri byte) := ⟨fun _ => rfl, nofun⟩
theorem EncodeLength.rst5 : EncodeLength.Statement .rst5 := ⟨fun _ => rfl, nofun⟩
theorem EncodeLength.rp : EncodeLength.Statement .rp := ⟨fun _ => rfl, nofun⟩
theorem EncodeLength.popPSW : EncodeLength.Statement .popPSW := ⟨fun _ => rfl, nofun⟩
theorem EncodeLength.jp (adr : Word) : EncodeLength.Statement (.jp adr) := ⟨fun _ => rfl, nofun⟩
theorem EncodeLength.di : EncodeLength.Statement .di := ⟨fun _ => rfl, nofun⟩
theorem EncodeLength.cp (adr : Word) : EncodeLength.Statement (.cp adr) := ⟨fun _ => rfl, nofun⟩
theorem EncodeLength.pushPSW : EncodeLength.Statement .pushPSW := ⟨fun _ => rfl, nofun⟩
theorem EncodeLength.ori (byte : Byte) : EncodeLength.Statement (.ori byte) := ⟨fun _ => rfl, nofun⟩
theorem EncodeLength.rst6 : EncodeLength.Statement .rst6 := ⟨fun _ => rfl, nofun⟩
theorem EncodeLength.rm : EncodeLength.Statement .rm := ⟨fun _ => rfl, nofun⟩
theorem EncodeLength.sphl : EncodeLength.Statement .sphl := ⟨fun _ => rfl, nofun⟩
theorem EncodeLength.jm (adr : Word) : EncodeLength.Statement (.jm adr) := ⟨fun _ => rfl, nofun⟩
theorem EncodeLength.ei : EncodeLength.Statement .ei := ⟨fun _ => rfl, nofun⟩
theorem EncodeLength.cm (adr : Word) : EncodeLength.Statement (.cm adr) := ⟨fun _ => rfl, nofun⟩
theorem EncodeLength.undefFD : EncodeLength.Statement .undefFD := ⟨nofun, fun _ => rfl⟩
theorem EncodeLength.cpi (byte : Byte) : EncodeLength.Statement (.cpi byte) := ⟨fun _ => rfl, nofun⟩
theorem EncodeLength.rst7 : EncodeLength.Statement .rst7 := ⟨fun _ => rfl, nofun⟩

end Sys2Proof.Laws
end

