-- ==== Sys2Proof/Laws/Step.lean ====
section
/-! SUPPORT. Fetch and step: what each can do, said once. -/

namespace Sys2Proof.Machine

/-- The byte that fetch8 gives, and the state after it. -/
@[simp] theorem fetch8_fst (s : State) : s.fetch8.1 = (s.memRead s.pc).1 := rfl
@[simp] theorem fetch8_pc (s : State) : s.fetch8.2.pc = s.pc + 1 := rfl

@[simp] theorem fetch8_regs (s : State) : (s.fetch8.2).regs = s.regs := by simp [State.fetch8]
@[simp] theorem fetch8_flags (s : State) : (s.fetch8.2).flags = s.flags := by simp [State.fetch8]
@[simp] theorem fetch8_sp (s : State) : (s.fetch8.2).sp = s.sp := by simp [State.fetch8]
@[simp] theorem fetch8_ie (s : State) : (s.fetch8.2).ie = s.ie := by simp [State.fetch8]
@[simp] theorem fetch8_m75 (s : State) : (s.fetch8.2).m75 = s.m75 := by simp [State.fetch8]
@[simp] theorem fetch8_m65 (s : State) : (s.fetch8.2).m65 = s.m65 := by simp [State.fetch8]
@[simp] theorem fetch8_m55 (s : State) : (s.fetch8.2).m55 = s.m55 := by simp [State.fetch8]
@[simp] theorem fetch8_i75 (s : State) : (s.fetch8.2).i75 = s.i75 := by simp [State.fetch8]
@[simp] theorem fetch8_trapLatch (s : State) : (s.fetch8.2).trapLatch = s.trapLatch := by simp [State.fetch8]
@[simp] theorem fetch8_sod (s : State) : (s.fetch8.2).sod = s.sod := by simp [State.fetch8]
@[simp] theorem fetch8_halted (s : State) : (s.fetch8.2).halted = s.halted := by simp [State.fetch8]
@[simp] theorem fetch8_eiPending (s : State) : (s.fetch8.2).eiPending = s.eiPending := by simp [State.fetch8]
@[simp] theorem fetch8_ieAtTrap (s : State) : (s.fetch8.2).ieAtTrap = s.ieAtTrap := by simp [State.fetch8]
@[simp] theorem fetch8_ieAtTrapValid (s : State) : (s.fetch8.2).ieAtTrapValid = s.ieAtTrapValid := by simp [State.fetch8]
@[simp] theorem fetch8_prev75 (s : State) : (s.fetch8.2).prev75 = s.prev75 := by simp [State.fetch8]
@[simp] theorem fetch8_prevTrap (s : State) : (s.fetch8.2).prevTrap = s.prevTrap := by simp [State.fetch8]
@[simp] theorem fetch8_mem (s : State) : (s.fetch8.2).mem = s.mem := by simp [State.fetch8]
@[simp] theorem fetch8_map (s : State) : (s.fetch8.2).map = s.map := by simp [State.fetch8]
@[simp] theorem fetch8_lines (s : State) : (s.fetch8.2).env.lines = s.env.lines := by simp [State.fetch8]
@[simp] theorem fetch8_samples (s : State) : (s.fetch8.2).env.samples = s.env.samples := by simp [State.fetch8]

/-- A fetch from RAM or ROM gives the byte held and only moves PC. -/
theorem fetch8_stored {s : State} (h : s.kindAt s.pc = .ram ∨ s.kindAt s.pc = .rom) :
    s.fetch8 = (s.byteAt s.pc, s.setPc (s.pc + 1)) := by
  simp [State.fetch8, memRead_stored h]

/-- What a fetch that answers an instruction can do: it moves PC past the bytes read and changes nothing else but the
environment, whose lines and samples it leaves. -/
theorem fetch_ok {s t : State} {i : Instr} (h : s.fetch = .ok (i, t)) :
    ∃ e pc', t = { s with env := e, pc := pc' } ∧ e.lines = s.env.lines ∧ e.samples = s.env.samples := by
  have one : ∀ u : State, ∃ e pc', u.fetch8.2 = { u with env := e, pc := pc' } ∧ e.lines = u.env.lines ∧
      e.samples = u.env.samples := by
    intro u
    refine ⟨u.fetch8.2.env, u.fetch8.2.pc, ?_, by simp, by simp⟩
    unfold State.fetch8 State.setPc
    rcases memRead_cases u.pc u with ⟨_, e⟩ | ⟨_, e⟩ | ⟨_, e⟩
    · simp [e]
    · simp [e, State.absentByte]
    · simp only [e, State.record, State.answer]
      split <;> rfl
  obtain ⟨e1, p1, h1, l1, m1⟩ := one s
  obtain ⟨e2, p2, h2, l2, m2⟩ := one s.fetch8.2
  obtain ⟨e3, p3, h3, l3, m3⟩ := one s.fetch8.2.fetch8.2
  have l1' : s.fetch8.2.env.lines = s.env.lines := by simp
  have m1' : s.fetch8.2.env.samples = s.env.samples := by simp
  have l2' : s.fetch8.2.fetch8.2.env.lines = s.env.lines := by simp
  have m2' : s.fetch8.2.fetch8.2.env.samples = s.env.samples := by simp
  have r2 : s.fetch8.2.fetch8.2 = { s with env := e2, pc := p2 } := by rw [h2, h1]
  have r3 : s.fetch8.2.fetch8.2.fetch8.2 = { s with env := e3, pc := p3 } := by rw [h3, r2]
  unfold State.fetch at h
  simp only at h
  split at h
  · injection h with h; injection h with _ h; subst h; exact ⟨e1, p1, h1, l1, m1⟩
  · injection h with h; injection h with _ h; subst h; exact ⟨e1, p1, h1, l1, m1⟩
  · injection h with h; injection h with _ h; subst h
    exact ⟨e2, p2, r2, l2.trans l1', m2.trans m1'⟩
  · split at h
    · cases h
    split at h
    · cases h
    · injection h with h; injection h with _ h; subst h
      exact ⟨e3, p3, r3, l3.trans l2', m3.trans m2'⟩

/-- What a step can do (00_scope.md R10): reset; an interrupt entry; an INTR acknowledge; an idle step of the halt state;
a fetch that is refused; an instruction. -/
theorem step_cases (s : State) :
    (s.takeSample.env.lines.reset = true ∧ step s = .next s.takeSample.resetEvent) ∨
    (s.takeSample.env.lines.reset = false ∧
      ((∃ v, s.takeSample.latchEdges.accepted = some (.vectored v) ∧
          step s = .next (s.takeSample.latchEdges.takeInterrupt v)) ∨
        (s.takeSample.latchEdges.accepted = some .intr ∧ step s = acknowledgeIntr s.takeSample.latchEdges) ∨
        (s.takeSample.latchEdges.accepted = none ∧ s.halted = true ∧ step s = .next s.takeSample.latchEdges) ∨
        (s.takeSample.latchEdges.accepted = none ∧ s.halted = false ∧
          ∃ r, s.takeSample.latchEdges.fetch = .error r ∧ step s = .refused r) ∨
        (s.takeSample.latchEdges.accepted = none ∧ s.halted = false ∧
          ∃ i t, s.takeSample.latchEdges.fetch = .ok (i, t) ∧
            step s = finishInstruction s.eiPending i (exec i t)))) := by
  unfold step cycle
  cases hr : s.takeSample.env.lines.reset
  · right
    refine ⟨rfl, ?_⟩
    simp only [hr, Bool.false_eq_true, if_false, boundary]
    cases ha : s.takeSample.latchEdges.accepted with
    | some src => cases src <;> simp
    | none =>
      cases hh : s.halted
      · right; right; right
        simp only [latchEdges_halted, takeSample_halted, hh, Bool.false_eq_true, if_false, runInstruction]
        cases hf : s.takeSample.latchEdges.fetch with
        | error r => simp
        | ok p => obtain ⟨i, t⟩ := p; simp
      · simp [hh]
  · left; simp [hr]

/-- What an INTR acknowledge that answers a next state can do: the instruction supplied was RST or CALL and has run. -/
theorem acknowledgeIntr_next {s t : State} (h : acknowledgeIntr s = .next t) :
    ∃ i, Instr.allowedAtInta i = true ∧ exec i s.clearForEntry.intaReply.2 = .next t := by
  unfold acknowledgeIntr at h
  simp only at h
  split at h
  next i _ _ =>
    split at h
    next ha => exact ⟨i, ha, h⟩
    next => cases h
  next => cases h

/-- RST and CALL: a call to the address the instruction gives. -/
theorem exec_allowedAtInta {i : Instr} (h : Instr.allowedAtInta i = true) (s : State) :
    ∃ a, exec i s = .next (s.callTo a) := by
  cases i <;> first | (cases h; done) | exact ⟨_, rfl⟩

/-- The EI bookkeeping of an instruction that answered a next state. -/
theorem finishInstruction_next {p : Bool} {i : Instr} {r : Result} {t : State} (h : finishInstruction p i r = .next t) :
    ∃ u, r = .next u ∧ t = u.afterInstruction p i := by
  cases r with
  | next u => injection h with h; exact ⟨u, rfl, h.symm⟩
  | fault f => cases f
  | refused r => cases h

/-- The EI bookkeeping writes IE and EI_PENDING only (43_stack_io_machine_control.md R241). -/
theorem afterInstruction_cases (p : Bool) (i : Instr) (s : State) :
    (p = true ∧ i ≠ .ei ∧ i ≠ .di ∧ s.afterInstruction p i = { s with ie := true, eiPending := false }) ∨
    ((p = false ∨ i = .ei ∨ i = .di) ∧ s.afterInstruction p i = s) := by
  unfold State.afterInstruction
  cases p
  · right; simp
  · by_cases h1 : i = .ei
    · right; simp [h1]
    · by_cases h2 : i = .di
      · right; simp [h2]
      · left; simp [h1, h2]

@[simp] theorem afterInstruction_regs (p : Bool) (i : Instr) (s : State) : (s.afterInstruction p i).regs = s.regs := by unfold State.afterInstruction; split <;> rfl
@[simp] theorem afterInstruction_flags (p : Bool) (i : Instr) (s : State) : (s.afterInstruction p i).flags = s.flags := by unfold State.afterInstruction; split <;> rfl
@[simp] theorem afterInstruction_sp (p : Bool) (i : Instr) (s : State) : (s.afterInstruction p i).sp = s.sp := by unfold State.afterInstruction; split <;> rfl
@[simp] theorem afterInstruction_pc (p : Bool) (i : Instr) (s : State) : (s.afterInstruction p i).pc = s.pc := by unfold State.afterInstruction; split <;> rfl
@[simp] theorem afterInstruction_m75 (p : Bool) (i : Instr) (s : State) : (s.afterInstruction p i).m75 = s.m75 := by unfold State.afterInstruction; split <;> rfl
@[simp] theorem afterInstruction_m65 (p : Bool) (i : Instr) (s : State) : (s.afterInstruction p i).m65 = s.m65 := by unfold State.afterInstruction; split <;> rfl
@[simp] theorem afterInstruction_m55 (p : Bool) (i : Instr) (s : State) : (s.afterInstruction p i).m55 = s.m55 := by unfold State.afterInstruction; split <;> rfl
@[simp] theorem afterInstruction_i75 (p : Bool) (i : Instr) (s : State) : (s.afterInstruction p i).i75 = s.i75 := by unfold State.afterInstruction; split <;> rfl
@[simp] theorem afterInstruction_trapLatch (p : Bool) (i : Instr) (s : State) : (s.afterInstruction p i).trapLatch = s.trapLatch := by unfold State.afterInstruction; split <;> rfl
@[simp] theorem afterInstruction_sod (p : Bool) (i : Instr) (s : State) : (s.afterInstruction p i).sod = s.sod := by unfold State.afterInstruction; split <;> rfl
@[simp] theorem afterInstruction_halted (p : Bool) (i : Instr) (s : State) : (s.afterInstruction p i).halted = s.halted := by unfold State.afterInstruction; split <;> rfl
@[simp] theorem afterInstruction_ieAtTrap (p : Bool) (i : Instr) (s : State) : (s.afterInstruction p i).ieAtTrap = s.ieAtTrap := by unfold State.afterInstruction; split <;> rfl
@[simp] theorem afterInstruction_ieAtTrapValid (p : Bool) (i : Instr) (s : State) : (s.afterInstruction p i).ieAtTrapValid = s.ieAtTrapValid := by unfold State.afterInstruction; split <;> rfl
@[simp] theorem afterInstruction_prev75 (p : Bool) (i : Instr) (s : State) : (s.afterInstruction p i).prev75 = s.prev75 := by unfold State.afterInstruction; split <;> rfl
@[simp] theorem afterInstruction_prevTrap (p : Bool) (i : Instr) (s : State) : (s.afterInstruction p i).prevTrap = s.prevTrap := by unfold State.afterInstruction; split <;> rfl
@[simp] theorem afterInstruction_mem (p : Bool) (i : Instr) (s : State) : (s.afterInstruction p i).mem = s.mem := by unfold State.afterInstruction; split <;> rfl
@[simp] theorem afterInstruction_map (p : Bool) (i : Instr) (s : State) : (s.afterInstruction p i).map = s.map := by unfold State.afterInstruction; split <;> rfl
@[simp] theorem afterInstruction_env (p : Bool) (i : Instr) (s : State) : (s.afterInstruction p i).env = s.env := by unfold State.afterInstruction; split <;> rfl

/-! ## Placing an instruction for the coming step -/

/-- What stands at an address after a byte was placed: RAM in place of a device or of nothing, the rest as before. -/
theorem kindAt_place (a b : Word) (v : Byte) (s : State) :
    (s.place a v).kindAt b =
      if b = a ∧ (s.kindAt a = .device ∨ s.kindAt a = .absent) then .ram else s.kindAt b := by
  have e : (s.place a v).map = match s.kindAt a with
      | .ram => s.map
      | .rom => s.map
      | .device => { first := a, last := a, kind := .ram } :: s.map
      | .absent => { first := a, last := a, kind := .ram } :: s.map := rfl
  unfold State.kindAt at *
  rw [e]
  cases h : kindIn s.map a <;> simp [kindIn, Region.holds]
  all_goals
    by_cases hb : b = a
    · simp [hb]
    · have hn : ¬ (a.toNat ≤ b.toNat ∧ b.toNat ≤ a.toNat) := fun h => hb (BitVec.eq_of_toNat_eq (by omega))
      simp [hb, hn]

/-- The byte placed is held there, in a canonical memory. -/
theorem byteAt_place_same (a : Word) (v : Byte) {s : State} (h : s.mem.wf = true) : (s.place a v).byteAt a = v := by
  simp [State.byteAt, State.place, Memory.read_write_same h]

/-- Placing a byte leaves every other byte alone. -/
theorem byteAt_place_other {a b : Word} (v : Byte) (s : State) (h : b ≠ a) : (s.place a v).byteAt b = s.byteAt b := by
  have hn : b.toNat ≠ a.toNat := fun e => h (BitVec.eq_of_toNat_eq e)
  simp [State.byteAt, State.place, Memory.read_write_other _ v hn]

@[simp] theorem place_pc (a : Word) (v : Byte) (s : State) : (s.place a v).pc = s.pc := rfl
@[simp] theorem quieted_mem (s : State) : s.quieted.mem = s.mem := by unfold State.quieted; split <;> rfl
@[simp] theorem quieted_map (s : State) : s.quieted.map = s.map := by unfold State.quieted; split <;> rfl
@[simp] theorem quieted_pc (s : State) : s.quieted.pc = s.pc := by unfold State.quieted; split <;> rfl

end Sys2Proof.Machine
end

