-- ==== Sys2Proof/Tests/Slice0.lean ====
section
/-! SUPPORT. Tests. Expected results are the spec's own: the opcode map of 30_encoding.md R89 and the vectors of
95_test_vectors.md part L2 (the rule each vector cites is the authority). A witness theorem shows a concrete state and
operands that meet the hypotheses of the obligation it is named after. -/

namespace Sys2Proof.Tests

open Sys2Proof.Machine Sys2Proof.Spec

/-! ## Well-formedness: the one check refuses each ill-formed term -/

theorem test_wellFormed_accepts : [Instr.nop, .movAB, .hlt, .rim, .sim, .jmp 0xFFFF, .rst7].all Instr.wellFormed = true := by
  decide

theorem test_wellFormed_refuses_undefined :
    [Instr.undef08, .undef10, .undef18, .undef28, .undef38, .undefCB, .undefD9, .undefDD, .undefED, .undefFD].any
      Instr.wellFormed = false := by
  decide

theorem test_reset_memory_canonical : State.reset.mem.wf = true := by decide
theorem test_memory_zero_removed : ((Memory.write [] 5 1).write 5 0) = [] := by decide
theorem test_memory_sorted : ((Memory.write [] 5 1).write 3 2) = [(3, 2), (5, 1)] := by decide

/-! ## Decoding and encoding: the words of 30_encoding.md R89, row by row -/

/-- Each word decodes to its instruction with nothing left over, and the instruction encodes to the word. -/
def decodesAll (l : List (List Byte × Instr)) : Bool :=
  l.all fun p => match decode p.1 with
    | .ok (i, rest) => i == p.2 && rest.isEmpty && encode i == p.1
    | .error _ => false

theorem test_words_0x : decodesAll
  [([0x00], .nop), ([0x01, 0x34, 0x12], .lxiB 0x1234), ([0x02], .staxB), ([0x03], .inxB), ([0x04], .inrB),
  ([0x05], .dcrB), ([0x06, 0xA5], .mviB 0xA5), ([0x07], .rlc), ([0x08], .undef08), ([0x09], .dadB),
  ([0x0A], .ldaxB), ([0x0B], .dcxB), ([0x0C], .inrC), ([0x0D], .dcrC), ([0x0E, 0xA5], .mviC 0xA5), ([0x0F], .rrc)] = true := by
  decide
theorem test_words_1x : decodesAll
  [([0x10], .undef10), ([0x11, 0x34, 0x12], .lxiD 0x1234), ([0x12], .staxD), ([0x13], .inxD), ([0x14], .inrD),
  ([0x15], .dcrD), ([0x16, 0xA5], .mviD 0xA5), ([0x17], .ral), ([0x18], .undef18), ([0x19], .dadD),
  ([0x1A], .ldaxD), ([0x1B], .dcxD), ([0x1C], .inrE), ([0x1D], .dcrE), ([0x1E, 0xA5], .mviE 0xA5), ([0x1F], .rar)] = true := by
  decide
theorem test_words_2x : decodesAll
  [([0x20], .rim), ([0x21, 0x34, 0x12], .lxiH 0x1234), ([0x22, 0x34, 0x12], .shld 0x1234), ([0x23], .inxH),
  ([0x24], .inrH), ([0x25], .dcrH), ([0x26, 0xA5], .mviH 0xA5), ([0x27], .daa), ([0x28], .undef28),
  ([0x29], .dadH), ([0x2A, 0x34, 0x12], .lhld 0x1234), ([0x2B], .dcxH), ([0x2C], .inrL), ([0x2D], .dcrL),
  ([0x2E, 0xA5], .mviL 0xA5), ([0x2F], .cma)] = true := by
  decide
theorem test_words_3x : decodesAll
  [([0x30], .sim), ([0x31, 0x34, 0x12], .lxiSP 0x1234), ([0x32, 0x34, 0x12], .sta 0x1234), ([0x33], .inxSP),
  ([0x34], .inrM), ([0x35], .dcrM), ([0x36, 0xA5], .mviM 0xA5), ([0x37], .stc), ([0x38], .undef38),
  ([0x39], .dadSP), ([0x3A, 0x34, 0x12], .lda 0x1234), ([0x3B], .dcxSP), ([0x3C], .inrA), ([0x3D], .dcrA),
  ([0x3E, 0xA5], .mviA 0xA5), ([0x3F], .cmc)] = true := by
  decide
theorem test_words_4x : decodesAll
  [([0x40], .movBB), ([0x41], .movBC), ([0x42], .movBD), ([0x43], .movBE), ([0x44], .movBH), ([0x45], .movBL),
  ([0x46], .movBM), ([0x47], .movBA), ([0x48], .movCB), ([0x49], .movCC), ([0x4A], .movCD), ([0x4B], .movCE),
  ([0x4C], .movCH), ([0x4D], .movCL), ([0x4E], .movCM), ([0x4F], .movCA)] = true := by
  decide
theorem test_words_5x : decodesAll
  [([0x50], .movDB), ([0x51], .movDC), ([0x52], .movDD), ([0x53], .movDE), ([0x54], .movDH), ([0x55], .movDL),
  ([0x56], .movDM), ([0x57], .movDA), ([0x58], .movEB), ([0x59], .movEC), ([0x5A], .movED), ([0x5B], .movEE),
  ([0x5C], .movEH), ([0x5D], .movEL), ([0x5E], .movEM), ([0x5F], .movEA)] = true := by
  decide
theorem test_words_6x : decodesAll
  [([0x60], .movHB), ([0x61], .movHC), ([0x62], .movHD), ([0x63], .movHE), ([0x64], .movHH), ([0x65], .movHL),
  ([0x66], .movHM), ([0x67], .movHA), ([0x68], .movLB), ([0x69], .movLC), ([0x6A], .movLD), ([0x6B], .movLE),
  ([0x6C], .movLH), ([0x6D], .movLL), ([0x6E], .movLM), ([0x6F], .movLA)] = true := by
  decide
theorem test_words_7x : decodesAll
  [([0x70], .movMB), ([0x71], .movMC), ([0x72], .movMD), ([0x73], .movME), ([0x74], .movMH), ([0x75], .movML),
  ([0x76], .hlt), ([0x77], .movMA), ([0x78], .movAB), ([0x79], .movAC), ([0x7A], .movAD), ([0x7B], .movAE),
  ([0x7C], .movAH), ([0x7D], .movAL), ([0x7E], .movAM), ([0x7F], .movAA)] = true := by
  decide
theorem test_words_8x : decodesAll
  [([0x80], .addB), ([0x81], .addC), ([0x82], .addD), ([0x83], .addE), ([0x84], .addH), ([0x85], .addL),
  ([0x86], .addM), ([0x87], .addA), ([0x88], .adcB), ([0x89], .adcC), ([0x8A], .adcD), ([0x8B], .adcE),
  ([0x8C], .adcH), ([0x8D], .adcL), ([0x8E], .adcM), ([0x8F], .adcA)] = true := by
  decide
theorem test_words_9x : decodesAll
  [([0x90], .subB), ([0x91], .subC), ([0x92], .subD), ([0x93], .subE), ([0x94], .subH), ([0x95], .subL),
  ([0x96], .subM), ([0x97], .subA), ([0x98], .sbbB), ([0x99], .sbbC), ([0x9A], .sbbD), ([0x9B], .sbbE),
  ([0x9C], .sbbH), ([0x9D], .sbbL), ([0x9E], .sbbM), ([0x9F], .sbbA)] = true := by
  decide
theorem test_words_Ax : decodesAll
  [([0xA0], .anaB), ([0xA1], .anaC), ([0xA2], .anaD), ([0xA3], .anaE), ([0xA4], .anaH), ([0xA5], .anaL),
  ([0xA6], .anaM), ([0xA7], .anaA), ([0xA8], .xraB), ([0xA9], .xraC), ([0xAA], .xraD), ([0xAB], .xraE),
  ([0xAC], .xraH), ([0xAD], .xraL), ([0xAE], .xraM), ([0xAF], .xraA)] = true := by
  decide
theorem test_words_Bx : decodesAll
  [([0xB0], .oraB), ([0xB1], .oraC), ([0xB2], .oraD), ([0xB3], .oraE), ([0xB4], .oraH), ([0xB5], .oraL),
  ([0xB6], .oraM), ([0xB7], .oraA), ([0xB8], .cmpB), ([0xB9], .cmpC), ([0xBA], .cmpD), ([0xBB], .cmpE),
  ([0xBC], .cmpH), ([0xBD], .cmpL), ([0xBE], .cmpM), ([0xBF], .cmpA)] = true := by
  decide
theorem test_words_Cx : decodesAll
  [([0xC0], .rnz), ([0xC1], .popB), ([0xC2, 0x34, 0x12], .jnz 0x1234), ([0xC3, 0x34, 0x12], .jmp 0x1234),
  ([0xC4, 0x34, 0x12], .cnz 0x1234), ([0xC5], .pushB), ([0xC6, 0xA5], .adi 0xA5), ([0xC7], .rst0), ([0xC8], .rz),
  ([0xC9], .ret), ([0xCA, 0x34, 0x12], .jz 0x1234), ([0xCB], .undefCB), ([0xCC, 0x34, 0x12], .cz 0x1234),
  ([0xCD, 0x34, 0x12], .call 0x1234), ([0xCE, 0xA5], .aci 0xA5), ([0xCF], .rst1)] = true := by
  decide
theorem test_words_Dx : decodesAll
  [([0xD0], .rnc), ([0xD1], .popD), ([0xD2, 0x34, 0x12], .jnc 0x1234), ([0xD3, 0xA5], .outPort 0xA5),
  ([0xD4, 0x34, 0x12], .cnc 0x1234), ([0xD5], .pushD), ([0xD6, 0xA5], .sui 0xA5), ([0xD7], .rst2), ([0xD8], .rc),
  ([0xD9], .undefD9), ([0xDA, 0x34, 0x12], .jc 0x1234), ([0xDB, 0xA5], .inPort 0xA5),
  ([0xDC, 0x34, 0x12], .cc 0x1234), ([0xDD], .undefDD), ([0xDE, 0xA5], .sbi 0xA5), ([0xDF], .rst3)] = true := by
  decide
theorem test_words_Ex : decodesAll
  [([0xE0], .rpo), ([0xE1], .popH), ([0xE2, 0x34, 0x12], .jpo 0x1234), ([0xE3], .xthl),
  ([0xE4, 0x34, 0x12], .cpo 0x1234), ([0xE5], .pushH), ([0xE6, 0xA5], .ani 0xA5), ([0xE7], .rst4), ([0xE8], .rpe),
  ([0xE9], .pchl), ([0xEA, 0x34, 0x12], .jpe 0x1234), ([0xEB], .xchg), ([0xEC, 0x34, 0x12], .cpe 0x1234),
  ([0xED], .undefED), ([0xEE, 0xA5], .xri 0xA5), ([0xEF], .rst5)] = true := by
  decide
theorem test_words_Fx : decodesAll
  [([0xF0], .rp), ([0xF1], .popPSW), ([0xF2, 0x34, 0x12], .jp 0x1234), ([0xF3], .di),
  ([0xF4, 0x34, 0x12], .cp 0x1234), ([0xF5], .pushPSW), ([0xF6, 0xA5], .ori 0xA5), ([0xF7], .rst6), ([0xF8], .rm),
  ([0xF9], .sphl), ([0xFA, 0x34, 0x12], .jm 0x1234), ([0xFB], .ei), ([0xFC, 0x34, 0x12], .cm 0x1234),
  ([0xFD], .undefFD), ([0xFE, 0xA5], .cpi 0xA5), ([0xFF], .rst7)] = true := by
  decide


theorem test_operand_missing : decode [0x3E] = .error (.operandMissing 0x3E) := rfl
theorem test_no_opcode : decode [] = .error .noOpcode := rfl
theorem test_table_word : decodeTableWord 24 0x123421 = some (.lxiH 0x1234) := by decide
theorem test_table_word_short : decodeTableWord 8 0xC3 = some (.jmp 0x0000) := by decide

/-! ## One step of one instruction -/

/-- Memory with these bytes and nothing else. -/
def cells (l : List (Nat × Byte)) : Memory := l.foldl (fun m p => m.write p.1 p.2) []

/-- The state the vectors start from: PC = 0100h, all else as the conventions of part L2 say. -/
def base : State := { State.reset with pc := 0x0100 }

/-- One step of the instruction with these bytes placed at PC answers a next state that passes the test. -/
def after (bytes : List Byte) (s : State) (test : State → Bool) : Bool :=
  match step (s.placeAll s.pc bytes) with
  | .next t => test t
  | .fault _ => false
  | .refused _ => false

/-- The flags from the digits of a vector's column: CY, AC, Z, S, P. -/
def flags (cy ac z s p : Nat) : Flags := { cy := cy == 1, ac := ac == 1, z := z == 1, s := s == 1, p := p == 1 }

/-! ### V1 of 95_test_vectors.md -/

theorem test_mov_a_b : after [0x78] { base with regs := { base.regs with b := 0x12 } }
    (fun t => t.regs.a == 0x12 && t.pc == 0x0101 && t.flags == flags 0 0 0 0 0) = true := by decide
theorem test_mov_a_a : after [0x7F] { base with regs := { base.regs with a := 0x5A } }
    (fun t => t.pc == 0x0101 && t.flags == flags 0 0 0 0 0) = true := by decide
theorem test_mov_a_m : after [0x7E] { base with
      regs := { base.regs with h := 0x20, l := 0x50 },
      mem := cells [(0x2050, 0xA5)] }
    (fun t => t.regs.a == 0xA5 && t.pc == 0x0101 && t.flags == flags 0 0 0 0 0) = true := by decide
theorem test_mov_h_m : after [0x66] { base with
      regs := { base.regs with h := 0x20, l := 0x50 },
      mem := cells [(0x2050, 0x9C)] }
    (fun t => t.regs.h == 0x9C && t.pc == 0x0101 && t.flags == flags 0 0 0 0 0) = true := by decide
theorem test_mov_m_e : after [0x73] { base with regs := { base.regs with h := 0x30, l := 0x00, e := 0x77 } }
    (fun t => t.byteAt 0x3000 == 0x77 && t.pc == 0x0101 && t.flags == flags 0 0 0 0 0) = true := by decide
theorem test_mov_m_h : after [0x74] { base with regs := { base.regs with h := 0x30, l := 0x00 } }
    (fun t => t.byteAt 0x3000 == 0x30 && t.pc == 0x0101 && t.flags == flags 0 0 0 0 0) = true := by decide
theorem test_mvi_a : after [0x3E, 0xFF] base
    (fun t => t.regs.a == 0xFF && t.pc == 0x0102 && t.flags == flags 0 0 0 0 0) = true := by decide
theorem test_mvi_b : after [0x06, 0x00] { base with regs := { base.regs with b := 0x99 } }
    (fun t => t.regs.b == 0x00 && t.pc == 0x0102 && t.flags == flags 0 0 0 0 0) = true := by decide
theorem test_mvi_m : after [0x36, 0x42] { base with regs := { base.regs with h := 0x21, l := 0x00 } }
    (fun t => t.byteAt 0x2100 == 0x42 && t.pc == 0x0102 && t.flags == flags 0 0 0 0 0) = true := by decide
theorem test_lxi_b : after [0x01, 0x34, 0x12] base
    (fun t => t.regs.b == 0x12 && t.regs.c == 0x34 &&
      t.pc == 0x0103 && t.flags == flags 0 0 0 0 0) = true := by decide
theorem test_lxi_sp : after [0x31, 0x00, 0x21] base
    (fun t => t.sp == 0x2100 && t.pc == 0x0103 && t.flags == flags 0 0 0 0 0) = true := by decide
theorem test_lxi_h : after [0x21, 0xFF, 0xFF] base
    (fun t => t.regs.h == 0xFF && t.regs.l == 0xFF &&
      t.pc == 0x0103 && t.flags == flags 0 0 0 0 0) = true := by decide
theorem test_ldax_b : after [0x0A] { base with
      regs := { base.regs with b := 0x20, c := 0x40 },
      mem := cells [(0x2040, 0x3C)] }
    (fun t => t.regs.a == 0x3C && t.pc == 0x0101 && t.flags == flags 0 0 0 0 0) = true := by decide
theorem test_ldax_d : after [0x1A] { base with
      regs := { base.regs with d := 0xFF, e := 0xFF },
      mem := cells [(0xFFFF, 0x01)] }
    (fun t => t.regs.a == 0x01 && t.pc == 0x0101 && t.flags == flags 0 0 0 0 0) = true := by decide
theorem test_stax_b : after [0x02] { base with regs := { base.regs with b := 0x3F, c := 0x16, a := 0x8E } }
    (fun t => t.byteAt 0x3F16 == 0x8E && t.pc == 0x0101 && t.flags == flags 0 0 0 0 0) = true := by decide
theorem test_stax_d : after [0x12] { base with regs := { base.regs with d := 0x00, e := 0x00, a := 0x11 } }
    (fun t => t.byteAt 0x0000 == 0x11 && t.pc == 0x0101 && t.flags == flags 0 0 0 0 0) = true := by decide
theorem test_lhld : after [0x2A, 0x5B, 0x02] { base with mem := cells [(0x025B, 0xFF), (0x025C, 0x03)] }
    (fun t => t.regs.h == 0x03 && t.regs.l == 0xFF &&
      t.pc == 0x0103 && t.flags == flags 0 0 0 0 0) = true := by decide
theorem test_shld : after [0x22, 0x0A, 0x01] { base with regs := { base.regs with h := 0xAE, l := 0x29 } }
    (fun t => t.byteAt 0x010A == 0x29 && t.byteAt 0x010B == 0xAE &&
      t.pc == 0x0103 && t.flags == flags 0 0 0 0 0) = true := by decide
theorem test_lda : after [0x3A, 0x00, 0x03] { base with mem := cells [(0x0300, 0x7B)] }
    (fun t => t.regs.a == 0x7B && t.pc == 0x0103 && t.flags == flags 0 0 0 0 0) = true := by decide
theorem test_sta : after [0x32, 0xB3, 0x05] { base with regs := { base.regs with a := 0xC4 } }
    (fun t => t.byteAt 0x05B3 == 0xC4 && t.pc == 0x0103 && t.flags == flags 0 0 0 0 0) = true := by decide
theorem test_xchg : after [0xEB] { base with regs := { base.regs with d := 0x33, e := 0x55, h := 0x00, l := 0xFF } }
    (fun t => t.regs.d == 0x00 && t.regs.e == 0xFF && t.regs.h == 0x33 && t.regs.l == 0x55 &&
      t.pc == 0x0101 && t.flags == flags 0 0 0 0 0) = true := by decide

/-! ### V2 of 95_test_vectors.md -/

theorem test_add_d : after [0x82] { base with regs := { base.regs with a := 0x6C, d := 0x2E } }
    (fun t => t.regs.a == 0x9A && t.pc == 0x0101 && t.flags == flags 0 1 0 1 1) = true := by decide
theorem test_add_a : after [0x87] { base with regs := { base.regs with a := 0x80 } }
    (fun t => t.regs.a == 0x00 && t.pc == 0x0101 && t.flags == flags 1 0 1 0 1) = true := by decide
theorem test_add_b : after [0x80] { base with regs := { base.regs with a := 0x7F, b := 0x01 } }
    (fun t => t.regs.a == 0x80 && t.pc == 0x0101 && t.flags == flags 0 1 0 1 0) = true := by decide
theorem test_add_m : after [0x86] { base with
      regs := { base.regs with a := 0x0F, h := 0x20, l := 0x00 },
      mem := cells [(0x2000, 0x01)] }
    (fun t => t.regs.a == 0x10 && t.pc == 0x0101 && t.flags == flags 0 1 0 0 0) = true := by decide
theorem test_adc_c : after [0x89] { base with
      regs := { base.regs with a := 0x3D, c := 0x42 },
      flags := { base.flags with cy := true } }
    (fun t => t.regs.a == 0x80 && t.pc == 0x0101 && t.flags == flags 0 1 0 1 0) = true := by decide
theorem test_adc_a : after [0x8F] { base with
      regs := { base.regs with a := 0xFF },
      flags := { base.flags with cy := true } }
    (fun t => t.pc == 0x0101 && t.flags == flags 1 1 0 1 1) = true := by decide
theorem test_aci : after [0xCE, 0x00] { base with
      regs := { base.regs with a := 0xFF },
      flags := { base.flags with cy := true } }
    (fun t => t.regs.a == 0x00 && t.pc == 0x0102 && t.flags == flags 1 1 1 0 1) = true := by decide
theorem test_adi : after [0xC6, 0x42] { base with regs := { base.regs with a := 0x14 } }
    (fun t => t.regs.a == 0x56 && t.pc == 0x0102 && t.flags == flags 0 0 0 0 1) = true := by decide
theorem test_sub_a : after [0x97] { base with regs := { base.regs with a := 0x3E } }
    (fun t => t.regs.a == 0x00 && t.pc == 0x0101 && t.flags == flags 0 1 1 0 1) = true := by decide
theorem test_sub_b : after [0x90] { base with regs := { base.regs with a := 0x00, b := 0x01 } }
    (fun t => t.regs.a == 0xFF && t.pc == 0x0101 && t.flags == flags 1 0 0 1 1) = true := by decide
theorem test_sui : after [0xD6, 0x01] { base with regs := { base.regs with a := 0x00 } }
    (fun t => t.regs.a == 0xFF && t.pc == 0x0102 && t.flags == flags 1 0 0 1 1) = true := by decide
theorem test_sbb_l : after [0x9D] { base with
      regs := { base.regs with a := 0x04, l := 0x02 },
      flags := { base.flags with cy := true } }
    (fun t => t.regs.a == 0x01 && t.pc == 0x0101 && t.flags == flags 0 1 0 0 0) = true := by decide
theorem test_sbb_b : after [0x98] { base with
      regs := { base.regs with a := 0x00, b := 0xFF },
      flags := { base.flags with cy := true } }
    (fun t => t.pc == 0x0101 && t.flags == flags 1 0 1 0 1) = true := by decide
theorem test_sbi : after [0xDE, 0x01] { base with
      regs := { base.regs with a := 0x00 },
      flags := { base.flags with cy := false } }
    (fun t => t.regs.a == 0xFF && t.pc == 0x0102 && t.flags == flags 1 0 0 1 1) = true := by decide
theorem test_cmp_e : after [0xBB] { base with regs := { base.regs with a := 0x0A, e := 0x05 } }
    (fun t => t.pc == 0x0101 && t.flags == flags 0 1 0 0 1) = true := by decide
theorem test_cmp_e_2 : after [0xBB] { base with regs := { base.regs with a := 0x02, e := 0x05 } }
    (fun t => t.pc == 0x0101 && t.flags == flags 1 0 0 1 0) = true := by decide
theorem test_cmp_a : after [0xBF] { base with regs := { base.regs with a := 0xE5 } }
    (fun t => t.pc == 0x0101 && t.flags == flags 0 1 1 0 1) = true := by decide
theorem test_cpi : after [0xFE, 0x40] { base with regs := { base.regs with a := 0x4A } }
    (fun t => t.pc == 0x0102 && t.flags == flags 0 1 0 0 1) = true := by decide
theorem test_cpi_2 : after [0xFE, 0x80] { base with regs := { base.regs with a := 0x7F } }
    (fun t => t.pc == 0x0102 && t.flags == flags 1 1 0 1 1) = true := by decide

/-! ### V3 of 95_test_vectors.md -/

theorem test_inr_c : after [0x0C] { base with regs := { base.regs with c := 0x99 } }
    (fun t => t.regs.c == 0x9A && t.pc == 0x0101 && t.flags == flags 0 0 0 1 1) = true := by decide
theorem test_inr_a : after [0x3C] { base with
      regs := { base.regs with a := 0xFF },
      flags := { base.flags with cy := false } }
    (fun t => t.regs.a == 0x00 && t.pc == 0x0101 && t.flags == flags 0 1 1 0 1) = true := by decide
theorem test_inr_a_2 : after [0x3C] { base with
      regs := { base.regs with a := 0x7F },
      flags := { base.flags with cy := true } }
    (fun t => t.regs.a == 0x80 && t.pc == 0x0101 && t.flags == flags 1 1 0 1 0) = true := by decide
theorem test_inr_m : after [0x34] { base with
      regs := { base.regs with h := 0x25, l := 0x00 },
      mem := cells [(0x2500, 0x0F)] }
    (fun t => t.byteAt 0x2500 == 0x10 && t.pc == 0x0101 && t.flags == flags 0 1 0 0 0) = true := by decide
theorem test_dcr_a : after [0x3D] { base with
      regs := { base.regs with a := 0x00 },
      flags := { base.flags with cy := false } }
    (fun t => t.regs.a == 0xFF && t.pc == 0x0101 && t.flags == flags 0 0 0 1 1) = true := by decide
theorem test_dcr_b : after [0x05] { base with regs := { base.regs with b := 0x01 } }
    (fun t => t.regs.b == 0x00 && t.pc == 0x0101 && t.flags == flags 0 1 1 0 1) = true := by decide
theorem test_dcr_e : after [0x1D] { base with regs := { base.regs with e := 0x10 } }
    (fun t => t.regs.e == 0x0F && t.pc == 0x0101 && t.flags == flags 0 0 0 0 1) = true := by decide
theorem test_dcr_m : after [0x35] { base with
      regs := { base.regs with h := 0x3A, l := 0x7C },
      mem := cells [(0x3A7C, 0x40)] }
    (fun t => t.byteAt 0x3A7C == 0x3F && t.pc == 0x0101 && t.flags == flags 0 0 0 0 1) = true := by decide
theorem test_inx_d : after [0x13] { base with regs := { base.regs with d := 0x38, e := 0xFF } }
    (fun t => t.regs.d == 0x39 && t.regs.e == 0x00 &&
      t.pc == 0x0101 && t.flags == flags 0 0 0 0 0) = true := by decide
theorem test_inx_sp : after [0x33] { base with sp := 0xFFFF }
    (fun t => t.sp == 0x0000 && t.pc == 0x0101 && t.flags == flags 0 0 0 0 0) = true := by decide
theorem test_dcx_h : after [0x2B] { base with regs := { base.regs with h := 0x98, l := 0x00 } }
    (fun t => t.regs.h == 0x97 && t.regs.l == 0xFF &&
      t.pc == 0x0101 && t.flags == flags 0 0 0 0 0) = true := by decide
theorem test_dcx_b : after [0x0B] { base with regs := { base.regs with b := 0x00, c := 0x00 } }
    (fun t => t.regs.b == 0xFF && t.regs.c == 0xFF &&
      t.pc == 0x0101 && t.flags == flags 0 0 0 0 0) = true := by decide
theorem test_dad_b : after [0x09] { base with regs := { base.regs with b := 0x33, c := 0x9F, h := 0xA1, l := 0x7B } }
    (fun t => t.regs.h == 0xD5 && t.regs.l == 0x1A &&
      t.pc == 0x0101 && t.flags == flags 0 0 0 0 0) = true := by decide
theorem test_dad_h : after [0x29] { base with regs := { base.regs with h := 0x80, l := 0x00 } }
    (fun t => t.regs.h == 0x00 && t.pc == 0x0101 && t.flags == flags 1 0 0 0 0) = true := by decide
theorem test_dad_sp : after [0x39] { base with regs := { base.regs with h := 0x00, l := 0x00 }, sp := 0x20FE }
    (fun t => t.regs.h == 0x20 && t.regs.l == 0xFE &&
      t.pc == 0x0101 && t.flags == flags 0 0 0 0 0) = true := by decide
theorem test_dad_d : after [0x19] { base with
      regs := { base.regs with d := 0x00, e := 0x01, h := 0xFF, l := 0xFF },
      flags := { base.flags with z := false } }
    (fun t => t.regs.h == 0x00 && t.regs.l == 0x00 &&
      t.pc == 0x0101 && t.flags == flags 1 0 0 0 0) = true := by decide
theorem test_daa : after [0x27] { base with regs := { base.regs with a := 0x9B } }
    (fun t => t.regs.a == 0x01 && t.pc == 0x0101 && t.flags == flags 1 1 0 0 0) = true := by decide
theorem test_daa_2 : after [0x27] { base with
      regs := { base.regs with a := 0x12 },
      flags := { base.flags with ac := true } }
    (fun t => t.regs.a == 0x18 && t.pc == 0x0101 && t.flags == flags 0 0 0 0 1) = true := by decide
theorem test_cma : after [0x2F] { base with regs := { base.regs with a := 0x51 } }
    (fun t => t.regs.a == 0xAE && t.pc == 0x0101 && t.flags == flags 0 0 0 0 0) = true := by decide
theorem test_stc : after [0x37] base (fun t => t.pc == 0x0101 && t.flags == flags 1 0 0 0 0) = true := by decide
theorem test_cmc : after [0x3F] { base with flags := { base.flags with cy := true } }
    (fun t => t.pc == 0x0101 && t.flags == flags 0 0 0 0 0) = true := by decide

/-! ### V4 of 95_test_vectors.md -/

theorem test_rlc : after [0x07] { base with regs := { base.regs with a := 0xF2 } }
    (fun t => t.regs.a == 0xE5 && t.pc == 0x0101 && t.flags == flags 1 0 0 0 0) = true := by decide
theorem test_rrc : after [0x0F] { base with regs := { base.regs with a := 0xF2 } }
    (fun t => t.regs.a == 0x79 && t.pc == 0x0101 && t.flags == flags 0 0 0 0 0) = true := by decide
theorem test_ral : after [0x17] { base with
      regs := { base.regs with a := 0xB5 },
      flags := { base.flags with cy := false } }
    (fun t => t.regs.a == 0x6A && t.pc == 0x0101 && t.flags == flags 1 0 0 0 0) = true := by decide
theorem test_rar : after [0x1F] { base with
      regs := { base.regs with a := 0x6A },
      flags := { base.flags with cy := true } }
    (fun t => t.regs.a == 0xB5 && t.pc == 0x0101 && t.flags == flags 0 0 0 0 0) = true := by decide
theorem test_ana_c : after [0xA1] { base with regs := { base.regs with a := 0xFC, c := 0x0F } }
    (fun t => t.regs.a == 0x0C && t.pc == 0x0101 && t.flags == flags 0 1 0 0 1) = true := by decide
theorem test_ana_a : after [0xA7] { base with
      regs := { base.regs with a := 0x00 },
      flags := { base.flags with cy := true } }
    (fun t => t.pc == 0x0101 && t.flags == flags 0 1 1 0 1) = true := by decide
theorem test_ani : after [0xE6, 0x0F] { base with regs := { base.regs with a := 0x3A } }
    (fun t => t.regs.a == 0x0A && t.pc == 0x0102 && t.flags == flags 0 1 0 0 1) = true := by decide
theorem test_xra_a : after [0xAF] { base with
      regs := { base.regs with a := 0x5C },
      flags := { base.flags with cy := true } }
    (fun t => t.regs.a == 0x00 && t.pc == 0x0101 && t.flags == flags 0 0 1 0 1) = true := by decide
theorem test_xra_b : after [0xA8] { base with regs := { base.regs with a := 0xFF, b := 0x0F } }
    (fun t => t.regs.a == 0xF0 && t.pc == 0x0101 && t.flags == flags 0 0 0 1 1) = true := by decide
theorem test_xri : after [0xEE, 0x81] { base with regs := { base.regs with a := 0x3B } }
    (fun t => t.regs.a == 0xBA && t.pc == 0x0102 && t.flags == flags 0 0 0 1 0) = true := by decide
theorem test_ora_a : after [0xB7] { base with
      regs := { base.regs with a := 0x80 },
      flags := { base.flags with cy := true } }
    (fun t => t.pc == 0x0101 && t.flags == flags 0 0 0 1 0) = true := by decide
theorem test_ora_c : after [0xB1] { base with regs := { base.regs with a := 0x33, c := 0x0F } }
    (fun t => t.regs.a == 0x3F && t.pc == 0x0101 && t.flags == flags 0 0 0 0 1) = true := by decide
theorem test_ori : after [0xF6, 0x0F] { base with regs := { base.regs with a := 0xB5 } }
    (fun t => t.regs.a == 0xBF && t.pc == 0x0102 && t.flags == flags 0 0 0 1 0) = true := by decide

/-! ### V5 of 95_test_vectors.md -/

theorem test_jmp : after [0xC3, 0x00, 0x3E] base
    (fun t => t.pc == 0x3E00 && t.flags == flags 0 0 0 0 0) = true := by decide
theorem test_jnz : after [0xC2, 0x50, 0x01] { base with flags := { base.flags with z := false } }
    (fun t => t.pc == 0x0150 && t.flags == flags 0 0 0 0 0) = true := by decide
theorem test_jnz_2 : after [0xC2, 0x50, 0x01] { base with flags := { base.flags with z := true } }
    (fun t => t.pc == 0x0103 && t.flags == flags 0 0 1 0 0) = true := by decide
theorem test_jz : after [0xCA, 0x50, 0x01] { base with flags := { base.flags with z := true } }
    (fun t => t.pc == 0x0150 && t.flags == flags 0 0 1 0 0) = true := by decide
theorem test_jnc : after [0xD2, 0x50, 0x01] { base with flags := { base.flags with cy := true } }
    (fun t => t.pc == 0x0103 && t.flags == flags 1 0 0 0 0) = true := by decide
theorem test_jc : after [0xDA, 0x50, 0x01] { base with flags := { base.flags with cy := true } }
    (fun t => t.pc == 0x0150 && t.flags == flags 1 0 0 0 0) = true := by decide
theorem test_jpo : after [0xE2, 0x50, 0x01] { base with flags := { base.flags with p := false } }
    (fun t => t.pc == 0x0150 && t.flags == flags 0 0 0 0 0) = true := by decide
theorem test_jpe : after [0xEA, 0x50, 0x01] { base with flags := { base.flags with p := false } }
    (fun t => t.pc == 0x0103 && t.flags == flags 0 0 0 0 0) = true := by decide
theorem test_jp : after [0xF2, 0x50, 0x01] { base with flags := { base.flags with s := false } }
    (fun t => t.pc == 0x0150 && t.flags == flags 0 0 0 0 0) = true := by decide
theorem test_jm : after [0xFA, 0x50, 0x01] { base with flags := { base.flags with s := true } }
    (fun t => t.pc == 0x0150 && t.flags == flags 0 0 0 1 0) = true := by decide
theorem test_pchl : after [0xE9] { base with regs := { base.regs with h := 0x41, l := 0x3E } }
    (fun t => t.pc == 0x413E && t.flags == flags 0 0 0 0 0) = true := by decide
theorem test_call : after [0xCD, 0x00, 0x30] { base with sp := 0x2100 }
    (fun t => t.sp == 0x20FE && t.byteAt 0x20FF == 0x01 && t.byteAt 0x20FE == 0x03 &&
      t.pc == 0x3000 && t.flags == flags 0 0 0 0 0) = true := by decide
theorem test_call_2 : after [0xCD, 0x00, 0x30] { base with sp := 0x0001 }
    (fun t => t.sp == 0xFFFF && t.byteAt 0x0000 == 0x01 && t.byteAt 0xFFFF == 0x03 &&
      t.pc == 0x3000 && t.flags == flags 0 0 0 0 0) = true := by decide
theorem test_cnz : after [0xC4, 0x00, 0x30] { base with flags := { base.flags with z := false }, sp := 0x2100 }
    (fun t => t.sp == 0x20FE && t.byteAt 0x20FF == 0x01 && t.byteAt 0x20FE == 0x03 &&
      t.pc == 0x3000 && t.flags == flags 0 0 0 0 0) = true := by decide
theorem test_cnz_2 : after [0xC4, 0x00, 0x30] { base with flags := { base.flags with z := true }, sp := 0x2100 }
    (fun t => t.pc == 0x0103 && t.flags == flags 0 0 1 0 0) = true := by decide
theorem test_cc : after [0xDC, 0x00, 0x30] { base with flags := { base.flags with cy := true }, sp := 0x2100 }
    (fun t => t.sp == 0x20FE && t.byteAt 0x20FF == 0x01 && t.byteAt 0x20FE == 0x03 &&
      t.pc == 0x3000 && t.flags == flags 1 0 0 0 0) = true := by decide
theorem test_cp : after [0xF4, 0x00, 0x30] { base with flags := { base.flags with s := true }, sp := 0x2100 }
    (fun t => t.pc == 0x0103 && t.flags == flags 0 0 0 1 0) = true := by decide
theorem test_ret : after [0xC9] { base with sp := 0x20FE, mem := cells [(0x20FE, 0x03), (0x20FF, 0x01)] }
    (fun t => t.sp == 0x2100 && t.pc == 0x0103 && t.flags == flags 0 0 0 0 0) = true := by decide
theorem test_rz : after [0xC8] { base with
      flags := { base.flags with z := true },
      sp := 0x20FE,
      mem := cells [(0x20FE, 0x03), (0x20FF, 0x01)] }
    (fun t => t.sp == 0x2100 && t.pc == 0x0103 && t.flags == flags 0 0 1 0 0) = true := by decide
theorem test_rz_2 : after [0xC8] { base with
      flags := { base.flags with z := false },
      sp := 0x20FE,
      mem := cells [(0x20FE, 0x03), (0x20FF, 0x01)] }
    (fun t => t.pc == 0x0101 && t.flags == flags 0 0 0 0 0) = true := by decide
theorem test_rnc : after [0xD0] { base with
      flags := { base.flags with cy := false },
      sp := 0x20FE,
      mem := cells [(0x20FE, 0x03), (0x20FF, 0x01)] }
    (fun t => t.sp == 0x2100 && t.pc == 0x0103 && t.flags == flags 0 0 0 0 0) = true := by decide
theorem test_rp : after [0xF0] { base with
      flags := { base.flags with s := false },
      sp := 0x20FE,
      mem := cells [(0x20FE, 0x03), (0x20FF, 0x01)] }
    (fun t => t.sp == 0x2100 && t.pc == 0x0103 && t.flags == flags 0 0 0 0 0) = true := by decide
theorem test_rm : after [0xF8] { base with
      flags := { base.flags with s := false },
      sp := 0x20FE,
      mem := cells [(0x20FE, 0x03), (0x20FF, 0x01)] }
    (fun t => t.pc == 0x0101 && t.flags == flags 0 0 0 0 0) = true := by decide
theorem test_rst_0 : after [0xC7] { base with sp := 0x2100 }
    (fun t => t.sp == 0x20FE && t.byteAt 0x20FF == 0x01 && t.byteAt 0x20FE == 0x01 &&
      t.pc == 0x0000 && t.flags == flags 0 0 0 0 0) = true := by decide
theorem test_rst_1 : after [0xCF] { base with sp := 0x2100 }
    (fun t => t.sp == 0x20FE && t.byteAt 0x20FF == 0x01 && t.byteAt 0x20FE == 0x01 &&
      t.pc == 0x0008 && t.flags == flags 0 0 0 0 0) = true := by decide
theorem test_rst_4 : after [0xE7] { base with sp := 0x2100 }
    (fun t => t.sp == 0x20FE && t.byteAt 0x20FF == 0x01 && t.byteAt 0x20FE == 0x01 &&
      t.pc == 0x0020 && t.flags == flags 0 0 0 0 0) = true := by decide
theorem test_rst_7 : after [0xFF] { base with sp := 0x2100 }
    (fun t => t.sp == 0x20FE && t.byteAt 0x20FF == 0x01 && t.byteAt 0x20FE == 0x01 &&
      t.pc == 0x0038 && t.flags == flags 0 0 0 0 0) = true := by decide

/-! ### V6 of 95_test_vectors.md -/

theorem test_push_b : after [0xC5] { base with regs := { base.regs with b := 0x12, c := 0x34 }, sp := 0x2000 }
    (fun t => t.sp == 0x1FFE && t.byteAt 0x1FFF == 0x12 && t.byteAt 0x1FFE == 0x34 &&
      t.pc == 0x0101 && t.flags == flags 0 0 0 0 0) = true := by decide
theorem test_push_d : after [0xD5] { base with regs := { base.regs with d := 0x8F, e := 0x9D }, sp := 0x3A2C }
    (fun t => t.sp == 0x3A2A && t.byteAt 0x3A2B == 0x8F && t.byteAt 0x3A2A == 0x9D &&
      t.pc == 0x0101 && t.flags == flags 0 0 0 0 0) = true := by decide
theorem test_push_h : after [0xE5] { base with regs := { base.regs with h := 0xAB, l := 0xCD }, sp := 0x0000 }
    (fun t => t.sp == 0xFFFE && t.byteAt 0xFFFF == 0xAB && t.byteAt 0xFFFE == 0xCD &&
      t.pc == 0x0101 && t.flags == flags 0 0 0 0 0) = true := by decide
theorem test_push_psw : after [0xF5] { base with
      regs := { base.regs with a := 0x1F },
      flags := { base.flags with z := true, p := true, cy := true },
      sp := 0x502A,
      env := { Env.initial with bits := [false, false, false] } }
    (fun t => t.sp == 0x5028 && t.byteAt 0x5029 == 0x1F && t.byteAt 0x5028 == 0x45 &&
      t.pc == 0x0101 && t.flags == flags 1 0 1 0 1) = true := by decide
theorem test_pop_b : after [0xC1] { base with sp := 0x1FFE, mem := cells [(0x1FFE, 0x34), (0x1FFF, 0x12)] }
    (fun t => t.regs.b == 0x12 && t.regs.c == 0x34 && t.sp == 0x2000 &&
      t.pc == 0x0101 && t.flags == flags 0 0 0 0 0) = true := by decide
theorem test_pop_h : after [0xE1] { base with sp := 0x1FFE, mem := cells [(0x1FFE, 0x3D), (0x1FFF, 0x93)] }
    (fun t => t.regs.h == 0x93 && t.regs.l == 0x3D && t.sp == 0x2000 &&
      t.pc == 0x0101 && t.flags == flags 0 0 0 0 0) = true := by decide
theorem test_pop_psw : after [0xF1] { base with sp := 0x2C00, mem := cells [(0x2C00, 0xC3), (0x2C01, 0xFF)] }
    (fun t => t.regs.a == 0xFF && t.sp == 0x2C02 && t.pc == 0x0101 && t.flags == flags 1 0 1 1 0) = true := by decide
theorem test_pop_psw_2 : after [0xF1] { base with sp := 0x2C00, mem := cells [(0x2C00, 0x2A), (0x2C01, 0x00)] }
    (fun t => t.sp == 0x2C02 && t.pc == 0x0101 && t.flags == flags 0 0 0 0 0) = true := by decide
theorem test_xthl : after [0xE3] { base with
      regs := { base.regs with h := 0x0B, l := 0x3C },
      sp := 0x10AD,
      mem := cells [(0x10AD, 0xF0), (0x10AE, 0x0D)] }
    (fun t => t.regs.h == 0x0D && t.regs.l == 0xF0 && t.byteAt 0x10AE == 0x0B && t.byteAt 0x10AD == 0x3C &&
      t.pc == 0x0101 && t.flags == flags 0 0 0 0 0) = true := by decide
theorem test_sphl : after [0xF9] { base with regs := { base.regs with h := 0x50, l := 0x6C } }
    (fun t => t.sp == 0x506C && t.pc == 0x0101 && t.flags == flags 0 0 0 0 0) = true := by decide
theorem test_in : after [0xDB, 0x10] { base with env := { Env.initial with answers := [0x5A] } }
    (fun t => t.regs.a == 0x5A && t.pc == 0x0102 && t.flags == flags 0 0 0 0 0) = true := by decide
theorem test_out : after [0xD3, 0x01] { base with regs := { base.regs with a := 0x41 } }
    (fun t => t.env.events == [.portWrite 0x01 0x41] &&
      t.pc == 0x0102 && t.flags == flags 0 0 0 0 0) = true := by decide
theorem test_di : after [0xF3] { base with ie := true }
    (fun t => t.ie == false && t.pc == 0x0101 && t.flags == flags 0 0 0 0 0) = true := by decide
theorem test_ei : after [0xFB] { base with ie := false }
    (fun t => t.eiPending == true && t.pc == 0x0101 && t.flags == flags 0 0 0 0 0) = true := by decide
theorem test_nop : after [0x00] { base with eiPending := true }
    (fun t => t.ie == true && t.eiPending == false &&
      t.pc == 0x0101 && t.flags == flags 0 0 0 0 0) = true := by decide
theorem test_ei_2 : after [0xFB] { base with eiPending := true }
    (fun t => t.pc == 0x0101 && t.flags == flags 0 0 0 0 0) = true := by decide
theorem test_hlt : after [0x76] base
    (fun t => t.halted == true && t.pc == 0x0101 && t.flags == flags 0 0 0 0 0) = true := by decide
theorem test_rim : after [0x20] { base with
      ie := true,
      m75 := false, m65 := true, m55 := true,
      env := { Env.initial with lines := { Lines.low with sid := true, r65 := true, r55 := false } } }
    (fun t => t.regs.a == 0xAB && t.pc == 0x0101 && t.flags == flags 0 0 0 0 0) = true := by decide
theorem test_rim_2 : after [0x20] base
    (fun t => t.regs.a == 0x07 && t.pc == 0x0101 && t.flags == flags 0 0 0 0 0) = true := by decide
theorem test_sim : after [0x30] { base with regs := { base.regs with a := 0x0D } }
    (fun t => t.m65 == false && t.pc == 0x0101 && t.flags == flags 0 0 0 0 0) = true := by decide
theorem test_sim_2 : after [0x30] { base with
      regs := { base.regs with a := 0x05 },
      m75 := true, m65 := true, m55 := true }
    (fun t => t.pc == 0x0101 && t.flags == flags 0 0 0 0 0) = true := by decide


/-! ### V7 of 95_test_vectors.md: interrupts and reset -/

/-- One step from the state, with the sample given, answers a next state that passes the test. -/
def sampled (l : Lines) (s : State) (test : State → Bool) : Bool :=
  match step { s with env := { s.env with lines := l } } with
  | .next t => test t
  | .fault _ => false
  | .refused _ => false

/-- PC = 1234h, SP = 2100h, IE = 1 and the three masks as given: the start of most lines of V7. -/
def armed (m75 m65 m55 : Bool) : State :=
  { State.reset with pc := 0x1234, sp := 0x2100, ie := true, m75 := m75, m65 := m65, m55 := m55 }

/-- RST 7.5, RST 6.5, RST 5.5 and INTR high. -/
def allHigh : Lines := { Lines.low with r75 := true, r65 := true, r55 := true, intr := true }

/-- TRAP and RST 7.5 high. -/
def trapHigh : Lines := { Lines.low with trap := true, r75 := true }

/-- The bytes 12h, 34h stand on a stack whose SP was 2100h. -/
def pushed1234 (t : State) : Bool := t.sp == 0x20FE && t.byteAt 0x20FF == 0x12 && t.byteAt 0x20FE == 0x34

theorem test_v7_1_rst75 : sampled allHigh (armed false false false)
    (fun t => t.pc == 0x003C && pushed1234 t && !t.ie && !t.i75) = true := by decide
theorem test_v7_2_no_new_edge :
    sampled allHigh { armed false false false with pc := 0x003C, ie := false, prev75 := true }
      (fun t => t.pc == 0x003D && !t.i75) = true := by decide
theorem test_v7_3_rst65 : sampled allHigh (armed true false false)
    (fun t => t.pc == 0x0034 && pushed1234 t && !t.ie && t.i75) = true := by decide
theorem test_v7_4_rst55 : sampled allHigh (armed true true false)
    (fun t => t.pc == 0x002C && pushed1234 t && !t.ie && t.i75) = true := by decide
theorem test_v7_5_intr_rst : sampled allHigh
    { armed true true true with env := { Env.initial with inta := [{ op := 0xD7, byte2 := 0, byte3 := 0 }] } }
    (fun t => t.pc == 0x0010 && pushed1234 t && !t.ie && t.i75) = true := by decide
theorem test_v7_6_intr_call : sampled { Lines.low with intr := true }
    { armed true true true with env := { Env.initial with inta := [{ op := 0xCD, byte2 := 0, byte3 := 0x40 }] } }
    (fun t => t.pc == 0x4000 && pushed1234 t && !t.ie) = true := by decide
theorem test_v7_7_disabled : sampled allHigh { armed false false false with ie := false }
    (fun t => t.pc == 0x1235 && t.sp == 0x2100 && t.i75) = true := by decide
theorem test_v7_8_trap_first : sampled trapHigh (armed false true true)
    (fun t => t.pc == 0x0024 && pushed1234 t && !t.ie && t.ieAtTrap && t.ieAtTrapValid && !t.trapLatch && t.i75) = true := by
  decide
theorem test_v7_9_first_rim : sampled trapHigh
    ({ armed false true true with
        pc := 0x0024, ie := false, i75 := true, ieAtTrap := true, ieAtTrapValid := true, prev75 := true, prevTrap := true
       }.placeAll 0x0024 [0x20, 0x20])
    (fun t => t.pc == 0x0025 && t.regs.a == 0x4B && !t.ieAtTrapValid) = true := by decide
theorem test_v7_10_second_rim : sampled trapHigh
    ({ armed false true true with
        pc := 0x0025, ie := false, i75 := true, ieAtTrap := true, prev75 := true, prevTrap := true
       }.placeAll 0x0024 [0x20, 0x20])
    (fun t => t.pc == 0x0026 && t.regs.a == 0x43) = true := by decide
theorem test_v7_11_trap_ignores_ie : sampled { Lines.low with trap := true }
    { armed true true true with pc := 0x0200, ie := false }
    (fun t => t.pc == 0x0024 && t.sp == 0x20FE && t.byteAt 0x20FF == 0x02 && !t.ie && !t.ieAtTrap) = true := by decide
theorem test_v7_12_after_ei : sampled { Lines.low with r55 := true }
    { armed true true false with pc := 0x0301, ie := false, eiPending := true }
    (fun t => t.pc == 0x0302 && t.ie && !t.eiPending) = true := by decide
theorem test_v7_13_leaves_halt : sampled { Lines.low with r65 := true }
    { armed true false true with pc := 0x0401, halted := true }
    (fun t => t.pc == 0x0034 && t.byteAt 0x20FE == 0x01 && !t.ie && !t.halted) = true := by decide
theorem test_v7_13_stays_halted : sampled Lines.low { armed true false true with pc := 0x0401, halted := true }
    (fun t => t.pc == 0x0401 && t.ie && t.halted) = true := by decide
theorem test_v7_14_from_latch : sampled Lines.low { armed false true true with pc := 0x0503, i75 := true }
    (fun t => t.pc == 0x003C && t.byteAt 0x20FE == 0x03 && !t.ie && !t.i75) = true := by decide
theorem test_v7_15_reset : sampled { Lines.low with reset := true }
    { armed false false false with regs := { State.reset.regs with a := 0x77 }, i75 := true, sod := true, halted := true }
    (fun t => t.pc == 0 && !t.ie && t.m75 && t.m65 && t.m55 && !t.i75 && !t.sod && !t.halted && t.regs.a == 0x77 &&
      t.sp == 0x2100) = true := by decide

/-! ### Refusals -/

theorem test_undefined_refused : step (base.placeAll 0x0100 [0xDD]) = .refused (.undefinedOpcode 0xDD) := rfl
theorem test_inta_refused :
    step { armed true true true with
      env := { Env.initial with
        lines := { Lines.low with intr := true }, inta := [{ op := 0x00, byte2 := 0, byte3 := 0 }] } } =
      .refused (.intaNotRstOrCall 0x00) := rfl
theorem test_unpromised_read :
    step { base.placeAll 0x0100 [0xCA, 0x50] with map := [{ first := 0x0102, last := 0x0102, kind := .device }] } =
      .refused (.unpromisedOperandRead 0x0102) := rfl
theorem test_fetch_from_device :
    (match step { base with
        map := [{ first := 0x0100, last := 0x0100, kind := .device }], env := { Env.initial with answers := [0x37] } } with
      | .next t => t.flags.cy && t.env.events == [.deviceRead 0x0100 0x37]
      | .fault _ => false
      | .refused _ => false) = true := by decide

/-! ### Placing an instruction for the next step -/

theorem test_placed_runs : step (State.reset.withFetchWord 24 0x12343E) =
    .next { State.reset with
      pc := 2, regs := { State.reset.regs with a := 0x34 }, mem := [(0, 0x3E), (1, 0x34), (2, 0x12)] } := rfl

/-! ## Witnesses: the hypotheses of each obligation that has some are met -/

/-! ### Encoding -/

theorem witness_EncodeOfDecode : decode [0x3E, 0xFF, 0x99] = .ok (.mviA 0xFF, [0x99]) := rfl

theorem witness_FirstByteDeterminesLength :
    encode (.lxiB 0xFF00) = 0x01 :: [0x00, 0xFF] ∧ encode (.mviA 0xFF) = 0x3E :: [0xFF] ∧ encode .nop = 0x00 :: [] := by
  decide

/-! ### Per-instruction statements: an instruction with the bytes of each clause -/

theorem witness_MovRegister :
    encode .movBB = [op 1 Reg.b.code Reg.b.code] ∧ encode .movAL = [op 1 Reg.a.code Reg.l.code] := by decide

theorem witness_MovMemory : encode .movHM = [op 1 Reg.h.code 6] ∧ encode .movMA = [op 1 6 Reg.a.code] := by decide

theorem witness_MoveImmediate : encode (.mviB 0x00) = [op 0 Reg.b.code 6, 0x00] ∧ encode (.mviM 0xFF) = [0x36, 0xFF] := by
  decide

theorem witness_LoadPairImmediate :
    encode (.lxiB 0xFF00) = [opPair 0 0 1, 0x00, 0xFF] ∧ encode (.lxiD 0x00FF) = [opPair 0 1 1, 0xFF, 0x00] ∧
    encode (.lxiH 0x1234) = [opPair 0 2 1, 0x34, 0x12] ∧ encode (.lxiSP 0xFFFF) = [opPair 0 3 1, 0xFF, 0xFF] := by decide

theorem witness_LoadAccumulator :
    encode .ldaxB = [0x0A] ∧ encode .ldaxD = [0x1A] ∧ encode (.lda 0xFF00) = [0x3A, 0x00, 0xFF] := by decide

theorem witness_StoreAccumulator :
    encode .staxB = [0x02] ∧ encode .staxD = [0x12] ∧ encode (.sta 0xFF00) = [0x32, 0x00, 0xFF] := by decide

theorem witness_HlTransfer :
    encode (.lhld 0xFFFF) = [0x2A, 0xFF, 0xFF] ∧ encode (.shld 0xFFFF) = [0x22, 0xFF, 0xFF] ∧ encode .xchg = [0xEB] := by
  decide

theorem witness_AddGroup :
    encode .addB = [op 2 0 (Opnd.reg .b).code] ∧ encode .addM = [op 2 0 Opnd.m.code] ∧
    encode .adcA = [op 2 1 (Opnd.reg .a).code] ∧ encode .adcM = [op 2 1 Opnd.m.code] ∧
    encode (.adi 0xFF) = [0xC6, 0xFF] ∧ encode (.aci 0xFF) = [0xCE, 0xFF] := by decide

theorem witness_SubtractGroup :
    encode .subB = [op 2 2 (Opnd.reg .b).code] ∧ encode .subM = [op 2 2 Opnd.m.code] ∧
    encode .sbbA = [op 2 3 (Opnd.reg .a).code] ∧ encode .sbbM = [op 2 3 Opnd.m.code] ∧
    encode .cmpB = [op 2 7 (Opnd.reg .b).code] ∧ encode .cmpM = [op 2 7 Opnd.m.code] ∧
    encode (.sui 0xFF) = [0xD6, 0xFF] ∧ encode (.sbi 0xFF) = [0xDE, 0xFF] ∧ encode (.cpi 0xFF) = [0xFE, 0xFF] := by decide

theorem witness_LogicGroup :
    encode .anaB = [op 2 4 (Opnd.reg .b).code] ∧ encode .anaM = [op 2 4 Opnd.m.code] ∧
    encode .xraA = [op 2 5 (Opnd.reg .a).code] ∧ encode .xraM = [op 2 5 Opnd.m.code] ∧
    encode .oraB = [op 2 6 (Opnd.reg .b).code] ∧ encode .oraM = [op 2 6 Opnd.m.code] ∧
    encode (.ani 0xFF) = [0xE6, 0xFF] ∧ encode (.xri 0xFF) = [0xEE, 0xFF] ∧ encode (.ori 0xFF) = [0xF6, 0xFF] := by decide

theorem witness_IncrementDecrement :
    encode .inrB = [op 0 Reg.b.code 4] ∧ encode .dcrA = [op 0 Reg.a.code 5] ∧ encode .inrM = [0x34] ∧
    encode .dcrM = [0x35] := by decide

theorem witness_PairIncrementDecrement :
    encode .inxB = [opPair 0 Pair.b.code 3] ∧ encode .dcxSP = [opPair 0 Pair.sp.code 11] := by decide

theorem witness_DoubleAdd : encode .dadB = [opPair 0 Pair.b.code 9] ∧ encode .dadSP = [opPair 0 Pair.sp.code 9] := by
  decide

theorem witness_DecimalAdjust : encode .daa = [0x27] := by decide

theorem witness_SpecialsAndRotates :
    encode .cma = [0x2F] ∧ encode .stc = [0x37] ∧ encode .cmc = [0x3F] ∧ encode .rlc = [0x07] ∧ encode .rrc = [0x0F] ∧
    encode .ral = [0x17] ∧ encode .rar = [0x1F] := by decide

/-- The first and the last condition code, each holding and not holding of some flags. -/
theorem witness_conditions :
    conditionHolds (flags 0 0 0 0 0) 0 ∧ ¬ conditionHolds (flags 0 0 1 0 0) 0 ∧ conditionHolds (flags 0 0 0 1 0) 7 ∧
    ¬ conditionHolds (flags 0 0 0 0 0) 7 := by
  simp [conditionHolds, flags]

theorem witness_Jumps :
    (encode (.jmp 0xFF00) = [0xC3, 0x00, 0xFF] ∧ encode (.jnz 0x0000) = [op 3 0 2, 0x00, 0x00] ∧
    encode (.jm 0xFFFF) = [op 3 7 2, 0xFF, 0xFF] ∧ encode .pchl = [0xE9]) ∧
    (conditionHolds (flags 0 0 0 0 0) 0 ∧ ¬ conditionHolds (flags 0 0 1 0 0) 0 ∧
      conditionHolds (flags 0 0 0 1 0) 7 ∧ ¬ conditionHolds (flags 0 0 0 0 0) 7) :=
  ⟨by decide, witness_conditions⟩

theorem witness_Calls :
    (encode (.call 0xFF00) = [0xCD, 0x00, 0xFF] ∧ encode (.cnz 0x0000) = [op 3 0 4, 0x00, 0x00] ∧
    encode (.cm 0xFFFF) = [op 3 7 4, 0xFF, 0xFF] ∧ encode .rst0 = [op 3 0 7] ∧ encode .rst7 = [op 3 7 7]) ∧
    (conditionHolds (flags 0 0 0 0 0) 0 ∧ ¬ conditionHolds (flags 0 0 1 0 0) 0 ∧
      conditionHolds (flags 0 0 0 1 0) 7 ∧ ¬ conditionHolds (flags 0 0 0 0 0) 7) :=
  ⟨by decide, witness_conditions⟩

theorem witness_Returns :
    (encode .ret = [0xC9] ∧ encode .rnz = [op 3 0 0] ∧ encode .rm = [op 3 7 0]) ∧
    (conditionHolds (flags 0 0 0 0 0) 0 ∧ ¬ conditionHolds (flags 0 0 1 0 0) 0 ∧
      conditionHolds (flags 0 0 0 1 0) 7 ∧ ¬ conditionHolds (flags 0 0 0 0 0) 7) :=
  ⟨by decide, witness_conditions⟩

theorem witness_Pushes :
    Pair.b ≠ .sp ∧ encode .pushB = [opPair 3 Pair.b.code 5] ∧ encode .pushH = [opPair 3 Pair.h.code 5] ∧
    encode .pushPSW = [0xF5] := by decide

theorem witness_Pops :
    encode .popB = [0xC1] ∧ encode .popD = [0xD1] ∧ encode .popH = [0xE1] ∧ encode .popPSW = [0xF1] := by decide

theorem witness_StackExchange : encode .xthl = [0xE3] ∧ encode .sphl = [0xF9] := by decide

theorem witness_InputOutput : encode (.inPort 0xFF) = [0xDB, 0xFF] ∧ encode (.outPort 0x00) = [0xD3, 0x00] := by decide

theorem witness_InterruptControl :
    encode .di = [0xF3] ∧ encode .ei = [0xFB] ∧ encode .nop = [0x00] ∧ encode .hlt = [0x76] := by decide

theorem witness_ReadInterruptMasks :
    encode .rim = [0x20] ∧ base.eiPending = false ∧ { base with eiPending := true }.eiPending = true := by decide

theorem witness_SetInterruptMasks :
    encode .sim = [0x30] ∧ (0xFF : Byte).getLsbD 3 = true ∧ (0xFF : Byte).getLsbD 4 = true ∧
    (0xFF : Byte).getLsbD 6 = true ∧ (0x00 : Byte).getLsbD 3 = false ∧ (0x00 : Byte).getLsbD 4 = false ∧
    (0x00 : Byte).getLsbD 6 = false := by decide

theorem witness_UndefinedOpcodesRefused :
    (0x08 : Byte) ∈ undefinedOpcodes ∧ encode .undef08 = [0x08] ∧ (0xFD : Byte) ∈ undefinedOpcodes ∧
    encode .undefFD = [0xFD] := by decide

/-! ### The step -/

/-- No reset is requested when the sample has none. -/
theorem not_reset {s : State} (h : s.takeSample.env.lines.reset = false) : ¬ resetRequested s := by
  simp [resetRequested, h]

/-- The state `base`, whose next instruction is at 0100h, executes. -/
theorem base_executes : executes base := ⟨not_reset rfl, by decide, rfl⟩

theorem witness_StepRunsDecoded :
    executes base ∧ Instr.nop.wellFormed = true ∧
    decode [base.byteAt base.pc, base.byteAt (base.pc + 1), base.byteAt (base.pc + 2)] = .ok (.nop, [0x00, 0x00]) ∧
    ∀ k < (encode .nop).length, stored base (base.pc + BitVec.ofNat 16 k) :=
  ⟨base_executes, rfl, rfl, fun _ _ => .inl rfl⟩

/-- A state right after EI whose next instruction is NOP. -/
def afterEi : State := { base with eiPending := true }

theorem witness_EnableAfterNextInstruction :
    (executes afterEi ∧ (atBoundary afterEi).fetch = .ok (.nop, afterEi.setPc 0x0101) ∧
      exec .nop (afterEi.setPc 0x0101) = .next (afterEi.setPc 0x0101) ∧
      afterEi.eiPending = true ∧ opcode .nop ≠ 0xFB ∧ opcode .nop ≠ 0xF3) ∧
    (executes base ∧ (atBoundary base).fetch = .ok (.nop, base.setPc 0x0101) ∧
      exec .nop (base.setPc 0x0101) = .next (base.setPc 0x0101) ∧ base.eiPending = false) :=
  ⟨⟨⟨not_reset rfl, by decide, rfl⟩, rfl, rfl, rfl, by decide, by decide⟩, base_executes, rfl, rfl, rfl⟩

/-- The state with a sample to come. -/
def withSample (l : Lines) (s : State) : State := { s with env := { s.env with samples := [l] } }

theorem witness_ResetEventSetsState : resetRequested (withSample { Lines.low with reset := true } base) := rfl

theorem witness_VectoredEntry :
    (¬ resetRequested (withSample trapHigh afterEi) ∧
      (atBoundary (withSample trapHigh afterEi)).accepted = some (.vectored .trap)) ∧
    (¬ resetRequested (withSample allHigh (armed false false false)) ∧
      (atBoundary (withSample allHigh (armed false false false))).accepted = some (.vectored .rst75)) ∧
    (¬ resetRequested (withSample allHigh (armed true false false)) ∧
      (atBoundary (withSample allHigh (armed true false false))).accepted = some (.vectored .rst65)) ∧
    (¬ resetRequested (withSample allHigh (armed true true false)) ∧
      (atBoundary (withSample allHigh (armed true true false))).accepted = some (.vectored .rst55)) :=
  ⟨⟨not_reset rfl, rfl⟩, ⟨not_reset rfl, rfl⟩, ⟨not_reset rfl, rfl⟩, not_reset rfl, rfl⟩

/-- INTR is high and accepted, and the byte is what the device supplies first. -/
def acknowledged (b : Byte) : State :=
  { armed true true true with
    env := { Env.initial with
      lines := { Lines.low with intr := true }, inta := [{ op := b, byte2 := 0x00, byte3 := 0x40 }] } }

theorem witness_IntrEntry :
    (¬ resetRequested (acknowledged 0xFF) ∧ (atBoundary (acknowledged 0xFF)).accepted = some .intr ∧
      (atBoundary (acknowledged 0xFF)).intaReply.1.op = op 3 7 7) ∧
    (¬ resetRequested (acknowledged 0xCD) ∧ (atBoundary (acknowledged 0xCD)).accepted = some .intr ∧
      (atBoundary (acknowledged 0xCD)).intaReply.1.op = 0xCD) ∧
    (¬ resetRequested (acknowledged 0x00) ∧ (atBoundary (acknowledged 0x00)).accepted = some .intr ∧
      (∀ n : BitVec 3, (atBoundary (acknowledged 0x00)).intaReply.1.op ≠ op 3 n 7) ∧
      (atBoundary (acknowledged 0x00)).intaReply.1.op ≠ 0xCD) :=
  ⟨⟨not_reset rfl, rfl, rfl⟩, ⟨not_reset rfl, rfl, rfl⟩, not_reset rfl, rfl, by decide, by decide⟩

theorem witness_HaltHolds :
    { base with halted := true }.halted = true ∧ ¬ resetRequested { base with halted := true } ∧
    (atBoundary { base with halted := true }).accepted = none :=
  ⟨rfl, not_reset rfl, rfl⟩

/-- A step that takes RST 7.5 from its latch, and one that takes TRAP from its latch. -/
theorem witness_RequestsStayLatched :
    (∃ t, step { armed false true true with i75 := true } = .next t ∧ t.i75 = false) ∧
    (∃ t, step { withSample trapHigh base with trapLatch := true } = .next t ∧ t.trapLatch = false) :=
  ⟨⟨_, rfl, rfl⟩, _, rfl, rfl⟩

theorem witness_NoMaskableRightAfterEi :
    executes (base.placeAll 0x0100 [0xFB]) ∧
    (atBoundary (base.placeAll 0x0100 [0xFB])).fetch = .ok (.ei, (base.placeAll 0x0100 [0xFB]).setPc 0x0101) :=
  ⟨⟨not_reset rfl, by decide, rfl⟩, rfl⟩

theorem witness_DisabledUntilEi : base.ie = false ∧ base.eiPending = false ∧ ∃ t, step base = .next t := ⟨rfl, rfl, _, rfl⟩

theorem witness_MasksOnlyBySimOrReset : ∃ t, step (base.placeAll 0x0100 [0x30]) = .next t := ⟨_, rfl⟩

theorem witness_PlacedWordRunsNext : base.mem.wf = true ∧ decodeTableWord 24 0xFFFFC3 = some (.jmp 0xFFFF) := by decide

/-! ### Invariants and frames -/

theorem witness_StepKeepsInvariant : base.Inv ∧ ∃ t, step base = .next t := ⟨⟨rfl, rfl, rfl, rfl⟩, _, rfl⟩

theorem witness_OnlyRamChanges :
    (∃ t, step { base with map := [{ first := 0x0000, last := 0x00FF, kind := .rom }] } = .next t) ∧
    { base with map := [{ first := 0x0000, last := 0x00FF, kind := .rom }] }.kindAt 0x00FF ≠ .ram :=
  ⟨⟨_, rfl⟩, by decide⟩

theorem witness_OutputOnlyGrows : ∃ t, step (base.placeAll 0x0100 [0xD3, 0x01]) = .next t := ⟨_, rfl⟩

theorem witness_FlagsByClass :
    (∃ t, exec .inrB base = .next t) ∧ ¬ writesAllFlags (opcode .inrB) ∧ writesAllButCarry (opcode .inrB) ∧
    (∃ t, exec .dadB base = .next t) ∧ ¬ writesAllFlags (opcode .dadB) ∧ writesCarryOnly (opcode .dadB) ∧
    (∃ t, exec .inxB base = .next t) ∧ ¬ writesAllFlags (opcode .inxB) ∧ ¬ writesAllButCarry (opcode .inxB) ∧
    ¬ writesCarryOnly (opcode .inxB) :=
  ⟨⟨_, rfl⟩, by unfold writesAllFlags; decide, by unfold writesAllButCarry; decide, ⟨_, rfl⟩,
    by unfold writesAllFlags; decide, by unfold writesCarryOnly; decide, ⟨_, rfl⟩, by unfold writesAllFlags; decide,
    by unfold writesAllButCarry; decide, by unfold writesCarryOnly; decide⟩

theorem witness_MemoryFrame :
    (∃ t, exec (.shld 0xFFFF) base = .next t) ∧ (0x0001 : Word) ∉ storesTo (.shld 0xFFFF) base ∧
    (∃ t, exec .nop base = .next t) ∧ (0xFFFF : Word) ∉ storesTo .nop base :=
  ⟨⟨_, rfl⟩, by decide, ⟨_, rfl⟩, by decide⟩

theorem witness_RegisterFrame :
    (∃ t, exec .movBC base = .next t) ∧ Reg.c ∉ destinations (opcode .movBC) ∧ ¬ mayWriteSp (opcode .movBC) ∧
    ¬ mayTransfer (opcode .movBC) :=
  ⟨⟨_, rfl⟩, by decide, by unfold mayWriteSp; decide, by unfold mayTransfer; decide⟩

theorem witness_InterruptStateFrame : (∃ t, exec .pushB base = .next t) ∧ opcode .pushB ∉ [0xF3, 0xFB, 0x76, 0x20, 0x30] :=
  ⟨⟨_, rfl⟩, by decide⟩

theorem witness_DefinedInstructionsComplete : Instr.nop.wellFormed = true ∧ Instr.undefFD.wellFormed = false := by decide

/-! ### Pairs of operations -/

theorem witness_DaaGivesDecimalSum : isBcd { base.regs with a := 0x99 }.a ∧ isBcd 0x99 := by
  constructor <;> (unfold isBcd; decide)

theorem witness_WriteThenRead :
    base.mem.wf = true ∧ base.kindAt 0xFFFF = .ram ∧
    { base with map := [{ first := 0xFFFF, last := 0xFFFF, kind := .device }] }.kindAt 0xFFFF = .device ∧
    { base with map := [{ first := 0xFFFF, last := 0xFFFF, kind := .rom }] }.kindAt 0xFFFF = .rom := by decide

theorem witness_ReturnResumes :
    base.mem.wf = true ∧ stackInRam base ∧ encode .rst7 = [op 3 7 7] ∧ (armed false true true).mem.wf = true ∧
    stackInRam (withSample trapHigh (armed false true true)) ∧
    ¬ resetRequested (withSample trapHigh (armed false true true)) ∧
    (atBoundary (withSample trapHigh (armed false true true))).accepted = some (.vectored .trap) :=
  ⟨rfl, ⟨rfl, rfl⟩, rfl, rfl, ⟨rfl, rfl⟩, not_reset rfl, rfl⟩

theorem witness_PswRestored : base.mem.wf = true ∧ stackInRam base := ⟨rfl, rfl, rfl⟩

theorem witness_StoreSeenByFetch :
    (base.mem.wf = true ∧ base.kindAt 0xFFFF = .ram ∧ base.kindAt 0x0000 = .ram ∧ base.kindAt (base.sp - 1) = .ram ∧
      base.kindAt (base.sp - 2) = .ram) ∧
    (encode .staxB = [0x02] ∧ encode .staxD = [0x12] ∧ encode (.sta 0xFFFF) = [0x32, 0xFF, 0xFF] ∧
      encode .movMA = [op 1 6 Reg.a.code] ∧ encode (.mviM 0xFF) = [0x36, 0xFF] ∧ encode .inrM = [0x34] ∧
      encode .dcrM = [0x35] ∧ encode (.shld 0xFFFF) = [0x22, 0xFF, 0xFF] ∧ Pair.h ≠ .sp ∧
      encode .pushH = [opPair 3 Pair.h.code 5] ∧ encode .pushPSW = [0xF5] ∧ encode (.call 0xFF00) = [0xCD, 0x00, 0xFF] ∧
      encode (.cm 0xFFFF) = [op 3 7 4, 0xFF, 0xFF] ∧ encode .rst7 = [op 3 7 7] ∧ encode .xthl = [0xE3]) ∧
    conditionHolds (flags 0 0 0 1 0) 7 :=
  ⟨by decide, by decide, witness_conditions.2.2.1⟩

/-! ### Instruction bytes at any addresses -/

/-- The state with one region of this kind at these addresses, and these answers to come. -/
def region (kind : MemKind) (first last : Word) (answers : List Byte) (s : State) : State :=
  { s with map := [{ first := first, last := last, kind := kind }], env := { s.env with answers := answers } }

/-- JNZ at 0100h with Z = 1, its operand bytes from the given address at a device. -/
def unusedFrom (first : Word) : State :=
  region .device first 0x0102 [] ({ base with flags := flags 0 0 1 0 0 }.placeAll 0x0100 [0xC2, 0x34, 0x12])

theorem unusedFrom_unused (first : Word) : operandsUnused (unusedFrom first).flags 0xC2 :=
  ⟨0, .inl rfl, by simp [conditionHolds, unusedFrom, region, State.placeAll, State.place, flags]⟩

/-- Each kind of address for one byte. -/
theorem witness_StepFetchesAnyAddress_byte :
    stored base base.pc ∧ (region .device 0x0100 0x0100 [] base).kindAt 0x0100 = .device ∧
    (region .absent 0x0100 0x0100 [] base).kindAt 0x0100 = .absent :=
  ⟨.inl rfl, rfl, rfl⟩

/-- JMP is no conditional jump or call. -/
theorem not_conditional : ∀ c : BitVec 3, ¬ ((0xC3 : Byte) = op 3 c 2 ∨ (0xC3 : Byte) = op 3 c 4) := by decide

/-- A one-byte, a two-byte and a three-byte instruction read from a device. -/
theorem witness_StepFetchesAnyAddress_runs :
    (executes (region .device 0x0100 0x0102 [0x00] base) ∧
      encode .nop = [(atBoundary (region .device 0x0100 0x0102 [0x00] base)).fetch8.1]) ∧
    (executes (region .device 0x0100 0x0102 [0x3E, 0xFF] base) ∧
      let one := (atBoundary (region .device 0x0100 0x0102 [0x3E, 0xFF] base)).fetch8
      encode (.mviA 0xFF) = [one.1, one.2.fetch8.1]) ∧
    (executes (region .device 0x0100 0x0102 [0xC3, 0x34, 0x12] base) ∧
      let one := (atBoundary (region .device 0x0100 0x0102 [0xC3, 0x34, 0x12] base)).fetch8
      encode (.jmp 0x1234) = [one.1, one.2.fetch8.1, one.2.fetch8.2.fetch8.1] ∧
      ¬ operandsUnused base.flags one.1) :=
  ⟨⟨⟨not_reset rfl, rfl, rfl⟩, rfl⟩, ⟨⟨not_reset rfl, rfl, rfl⟩, rfl⟩, ⟨not_reset rfl, rfl, rfl⟩, rfl,
    fun ⟨c, h, _⟩ => not_conditional c h⟩

/-- Byte 2 of a conditional jump not taken at a device, and byte 3 alone. -/
theorem witness_StepFetchesAnyAddress_refused :
    (executes (unusedFrom 0x0101) ∧ operandsUnused (unusedFrom 0x0101).flags (atBoundary (unusedFrom 0x0101)).fetch8.1 ∧
      (unusedFrom 0x0101).kindAt 0x0101 = .device) ∧
    (executes (unusedFrom 0x0102) ∧ operandsUnused (unusedFrom 0x0102).flags (atBoundary (unusedFrom 0x0102)).fetch8.1 ∧
      (unusedFrom 0x0102).kindAt 0x0101 ≠ .device ∧ (unusedFrom 0x0102).kindAt 0x0102 = .device) :=
  ⟨⟨⟨not_reset rfl, rfl, rfl⟩, unusedFrom_unused _, rfl⟩, ⟨not_reset rfl, rfl, rfl⟩, unusedFrom_unused _, by decide, rfl⟩

end Sys2Proof.Tests
end

/-! Decoding and encoding are inverse to each other, and what the encoding of an instruction says of the opcode
map (spec/30_encoding.md R80 to R91). -/

namespace Sys2Proof.Proofs

open Sys2Proof.Machine

/-! ### Decoding inverts encoding -/

/-- The two operand bytes of a three-byte instruction decode to the word they were taken from (R81, R84). -/
theorem decode_word {op : Byte} {build : Word → Instr} (h : formatOf op = .f3 build) (w : Word) (rest : List Byte) :
    decode (op :: lowByte w :: highByte w :: rest) = .ok (build w, rest) := by
  simp [decode, h, assemble]

/-- Decoding an instruction's encoding gives it back. The three-byte instructions turn on `decode_word`; for every other row
both sides compute to the same. -/
theorem decode_encode_append (i : Instr) (rest : List Byte) : decode (encode i ++ rest) = .ok (i, rest) := by
  cases i with
  | lxiB w | lxiD w | lxiH w | lxiSP w | shld w | lhld w | sta w | lda w | jmp w | call w
  | jnz w | jz w | jnc w | jc w | jpo w | jpe w | jp w | jm w
  | cnz w | cz w | cnc w | cc w | cpo w | cpe w | cp w | cm w => exact decode_word rfl w rest
  | _ => rfl

/-- `decode_encode_append` with no byte following. -/
theorem decode_encode (i : Instr) : decode (encode i) = .ok (i, []) := by
  simpa using decode_encode_append i []

theorem encode_ne_nil (i : Instr) : encode i ≠ [] := fun h => by
  have e := decode_encode i
  rw [h] at e
  cases e

/-! ### Encoding inverts decoding -/

/-- What a cell of the opcode map builds is encoded as byte 1 followed by the operand bytes that the cell's format asks
for (R81, R89). -/
def FormatEncodes (op : Byte) : Format → Prop
  | .f1 i => encode i = [op]
  | .undefined i => encode i = [op]
  | .f2 build => ∀ b, encode (build b) = [op, b]
  | .f3 build => ∀ w, encode (build w) = [op, lowByte w, highByte w]

/-- Every cell of the opcode map stands at the place of its byte 1: checked cell by cell. -/
theorem formatEncodes_formatOf (op : Byte) : FormatEncodes op (formatOf op) := by
  obtain ⟨n, hn⟩ := op
  interval_cases n
  all_goals
    simp [FormatEncodes, encode, formatOf, opcodeRow, opcodeRow0, opcodeRow1, opcodeRow2, opcodeRow3, opcodeRow4, opcodeRow5,
      opcodeRow6, opcodeRow7, opcodeRow8, opcodeRow9, opcodeRowA, opcodeRowB, opcodeRowC, opcodeRowD, opcodeRowE, opcodeRowF]

/-- Bytes that decode to an instruction are its encoding and the bytes left over (R80, R91). -/
theorem encode_append_of_decode {bytes rest : List Byte} {i : Instr} (h : decode bytes = .ok (i, rest)) :
    encode i ++ rest = bytes := by
  cases bytes with
  | nil => cases h
  | cons op operands =>
    have cell := formatEncodes_formatOf op
    simp only [decode] at h
    cases hf : formatOf op with
    | f1 j | undefined j =>
      rw [hf] at h cell
      cases h
      exact congrArg (· ++ rest) cell
    | f2 build =>
      rw [hf] at h cell
      match operands with
      | [] => cases h
      | b :: _ => cases h; exact congrArg (· ++ rest) (cell b)
    | f3 build =>
      rw [hf] at h cell
      match operands with
      | [] | [_] => cases h
      | lo :: hi :: _ => cases h; simp [cell (joinBytes hi lo)]

/-! ### The cell of the opcode map that an encoding comes from -/

/-- An encoding of one byte is that of a one-byte instruction or of an undefined value. -/
theorem formatOf_of_encode_one {i : Instr} {op : Byte} (h : encode i = [op]) :
    formatOf op = .f1 i ∨ formatOf op = .undefined i := by
  have hd := h ▸ decode_encode i
  simp only [decode] at hd
  cases hf : formatOf op with
  | f1 j => rw [hf] at hd; cases hd; exact .inl rfl
  | undefined j => rw [hf] at hd; cases hd; exact .inr rfl
  | f2 _ | f3 _ => rw [hf] at hd; cases hd

/-- An encoding of two bytes is that of a two-byte instruction. -/
theorem formatOf_of_encode_two {i : Instr} {op b : Byte} (h : encode i = [op, b]) :
    ∃ build, formatOf op = .f2 build ∧ build b = i := by
  have hd := h ▸ decode_encode i
  simp only [decode] at hd
  cases hf : formatOf op with
  | f2 build => rw [hf] at hd; cases hd; exact ⟨build, rfl, rfl⟩
  | f1 _ | f3 _ | undefined _ => rw [hf] at hd; cases hd

/-- An encoding of three bytes is that of a three-byte instruction, byte 2 the low half of its operand. -/
theorem formatOf_of_encode_three {i : Instr} {op lo hi : Byte} (h : encode i = [op, lo, hi]) :
    ∃ build, formatOf op = .f3 build ∧ build (joinBytes hi lo) = i := by
  have hd := h ▸ decode_encode i
  simp only [decode] at hd
  cases hf : formatOf op with
  | f3 build => rw [hf] at hd; cases hd; exact ⟨build, rfl, rfl⟩
  | f1 _ | f2 _ | undefined _ => rw [hf] at hd; cases hd

end Sys2Proof.Proofs

/-! The conditions of the conditional jumps and calls (spec/42_branch_control.md R190): the model's `notTaken` is the
statements' `operandsUnused`, and such a byte 1 begins a three-byte instruction. -/

namespace Sys2Proof.Proofs

open Sys2Proof.Machine Sys2Proof.Spec

/-- The condition with a code holds of the flags as R190 lists it: NZ, Z, NC, C, PO, PE, P, M in the order of the codes. -/
theorem holds_ofCode_iff (f : Flags) (ccc : BitVec 3) :
    f.holds (Cond.ofCode ccc.toNat) = true ↔ conditionHolds f ccc := by
  have clear_iff (b : Bool) : (!b) = true ↔ b = false := by rw [Bool.not_eq_true']
  obtain ⟨code, hcode⟩ := ccc
  interval_cases code
  · exact clear_iff f.z
  · exact Iff.rfl
  · exact clear_iff f.cy
  · exact Iff.rfl
  · exact clear_iff f.p
  · exact Iff.rfl
  · exact clear_iff f.s
  · exact Iff.rfl

/-- Byte 1 of a conditional jump or call, as the model's field test reads it and as its three fields (30_encoding.md R88). -/
theorem branchFields_iff : ∀ (b : Byte) (ccc : BitVec 3),
    (b.toNat / 64 = 3 ∧ (b.toNat % 8 = 2 ∨ b.toNat % 8 = 4)) ∧ b.toNat / 8 % 8 = ccc.toNat ↔
      b = op 3 ccc 2 ∨ b = op 3 ccc 4 := by
  decide

theorem branchCondition?_eq_some_iff {b : Byte} {k : Cond} :
    branchCondition? b = some k ↔
      ∃ ccc : BitVec 3, (b = op 3 ccc 2 ∨ b = op 3 ccc 4) ∧ Cond.ofCode ccc.toNat = k := by
  simp only [← branchFields_iff, branchCondition?]
  constructor
  · intro h
    split at h
    next fields =>
      injection h with hk
      refine ⟨BitVec.ofNat 3 (b.toNat / 8 % 8), ⟨fields, ?_⟩, ?_⟩ <;> simp [hk]
    next => cases h
  · rintro ⟨ccc, ⟨fields, code⟩, rfl⟩
    simp [fields, code]

/-- The model's test for a conditional that is not taken is the statements' (42 R192 to R199, R202 to R209). -/
theorem notTaken_iff {b : Byte} {f : Flags} : notTaken b f = true ↔ operandsUnused f b := by
  have key : notTaken b f = true ↔ ∃ k, branchCondition? b = some k ∧ f.holds k = false := by
    unfold notTaken
    cases branchCondition? b <;> simp
  simp only [key, branchCondition?_eq_some_iff, operandsUnused, ← holds_ofCode_iff, Bool.not_eq_true]
  constructor
  · rintro ⟨k, ⟨ccc, hb, rfl⟩, hk⟩; exact ⟨ccc, hb, hk⟩
  · rintro ⟨ccc, hb, hk⟩; exact ⟨_, ⟨ccc, hb, rfl⟩, hk⟩

/-- Every conditional jump and call has three bytes (30_encoding.md R83). -/
theorem formatOf_of_operandsUnused {b : Byte} {f : Flags} (h : operandsUnused f b) : ∃ build, formatOf b = .f3 build := by
  have lengths : ∀ ccc : BitVec 3, (formatOf (op 3 ccc 2)).length = some 3 ∧ (formatOf (op 3 ccc 4)).length = some 3 := by
    decide
  obtain ⟨ccc, hb, -⟩ := h
  have three : (formatOf b).length = some 3 := by
    rcases hb with rfl | rfl
    · exact (lengths ccc).1
    · exact (lengths ccc).2
  cases hf : formatOf b with
  | f3 build => exact ⟨build, rfl⟩
  | f1 _ | f2 _ | undefined _ => rw [hf] at three; cases three

end Sys2Proof.Proofs

/-! What one fetch answers, by the bytes it reads: whatever stands at their addresses, and where all of them are
stored (spec/00_scope.md R9, R10; 20_memory.md R51; 42_branch_control.md R220). -/

namespace Sys2Proof.Proofs

open Sys2Proof.Machine Sys2Proof.Spec

/-! ### One byte -/

/-- Fetch8 at a device address: the environment's answer, and the read recorded (20_memory.md R51). -/
theorem fetch8_device {s : State} (h : s.kindAt s.pc = .device) :
    s.fetch8 = (s.answer.1,
      { s with
        pc := s.pc + 1
        env := { s.answer.2.env with events := s.env.events ++ [.deviceRead s.pc s.answer.1] } }) := by
  simp only [State.fetch8, State.memRead, h, State.answer]
  split <;> rfl

/-- Fetch8 at an absent address: a free byte (20_memory.md R51). -/
theorem fetch8_absent {s : State} (h : s.kindAt s.pc = .absent) :
    s.fetch8 = (s.absentByte.1, { s.absentByte.2 with pc := s.pc + 1 }) := by
  simp only [State.fetch8, State.memRead, h]
  rfl

/-- A fetch does not change what stands at an address. -/
@[simp] theorem fetch8_kindAt (s : State) (a : Word) : s.fetch8.2.kindAt a = s.kindAt a := by
  simp [State.kindAt]

/-- The address after the next, as two fetches reach it. -/
theorem add_one_add_one (a : Word) : a + 1 + 1 = a + 2 := by
  rw [BitVec.add_assoc]
  rfl

/-- The address after the next but one, as three fetches reach it. -/
theorem add_two_add_one (a : Word) : a + 2 + 1 = a + 3 := by
  rw [BitVec.add_assoc]
  rfl

/-! ### The operand reads that the spec does not promise (42 R220 (f)) -/

theorem unpromisedRead_iff {b : Byte} {s : State} :
    s.unpromisedRead b = true ↔ operandsUnused s.flags b ∧ s.kindAt s.pc = .device := by
  simp [State.unpromisedRead, notTaken_iff]

/-- The test before byte 2 is read. -/
theorem unpromisedRead_byte2_iff {b : Byte} {s : State} :
    s.fetch8.2.unpromisedRead b = true ↔ operandsUnused s.flags b ∧ s.kindAt (s.pc + 1) = .device := by
  simp [unpromisedRead_iff]

/-- The test before byte 3 is read. -/
theorem unpromisedRead_byte3_iff {b : Byte} {s : State} :
    s.fetch8.2.fetch8.2.unpromisedRead b = true ↔ operandsUnused s.flags b ∧ s.kindAt (s.pc + 2) = .device := by
  simp only [unpromisedRead_iff, fetch8_flags, fetch8_kindAt, fetch8_pc, add_one_add_one]

/-! ### One instruction, at any addresses -/

/-- The byte read is a whole instruction. -/
theorem fetch_one {s : State} {i : Instr} (h : encode i = [s.fetch8.1]) : s.fetch = .ok (i, s.fetch8.2) := by
  unfold State.fetch
  rcases formatOf_of_encode_one h with hf | hf <;> simp only [hf]

/-- The two bytes read in turn are a whole instruction. -/
theorem fetch_two {s : State} {i : Instr} (h : encode i = [s.fetch8.1, s.fetch8.2.fetch8.1]) :
    s.fetch = .ok (i, s.fetch8.2.fetch8.2) := by
  obtain ⟨build, hf, rfl⟩ := formatOf_of_encode_two h
  simp only [State.fetch, hf]

/-- The three bytes read in turn are a whole instruction, and the spec promises the reads of its operand bytes. -/
theorem fetch_three {s : State} {i : Instr}
    (h : encode i = [s.fetch8.1, s.fetch8.2.fetch8.1, s.fetch8.2.fetch8.2.fetch8.1])
    (promised : ¬ (operandsUnused s.flags s.fetch8.1 ∧
      (s.kindAt (s.pc + 1) = .device ∨ s.kindAt (s.pc + 2) = .device))) :
    s.fetch = .ok (i, s.fetch8.2.fetch8.2.fetch8.2) := by
  obtain ⟨build, hf, rfl⟩ := formatOf_of_encode_three h
  have byte2 : ¬ s.fetch8.2.unpromisedRead s.fetch8.1 = true := fun hu =>
    have ⟨unused, device⟩ := unpromisedRead_byte2_iff.mp hu
    promised ⟨unused, .inl device⟩
  have byte3 : ¬ s.fetch8.2.fetch8.2.unpromisedRead s.fetch8.1 = true := fun hu =>
    have ⟨unused, device⟩ := unpromisedRead_byte3_iff.mp hu
    promised ⟨unused, .inr device⟩
  simp only [State.fetch, hf, if_neg byte2, if_neg byte3]

/-- Byte 2 of a conditional not taken stands at a device address: the fetch is refused there. -/
theorem fetch_refused_byte2 {s : State} (unused : operandsUnused s.flags s.fetch8.1)
    (device : s.kindAt (s.pc + 1) = .device) : s.fetch = .error (.unpromisedOperandRead (s.pc + 1)) := by
  obtain ⟨build, hf⟩ := formatOf_of_operandsUnused unused
  simp only [State.fetch, hf, if_pos (unpromisedRead_byte2_iff.mpr ⟨unused, device⟩), fetch8_pc]

/-- Byte 3 alone of a conditional not taken stands at a device address: the fetch is refused there. -/
theorem fetch_refused_byte3 {s : State} (unused : operandsUnused s.flags s.fetch8.1)
    (promised2 : ¬ s.kindAt (s.pc + 1) = .device) (device : s.kindAt (s.pc + 2) = .device) :
    s.fetch = .error (.unpromisedOperandRead (s.pc + 2)) := by
  obtain ⟨build, hf⟩ := formatOf_of_operandsUnused unused
  have byte2 : ¬ s.fetch8.2.unpromisedRead s.fetch8.1 = true := fun hu => promised2 (unpromisedRead_byte2_iff.mp hu).2
  simp only [State.fetch, hf, if_neg byte2, if_pos (unpromisedRead_byte3_iff.mpr ⟨unused, device⟩), fetch8_pc,
    add_one_add_one]

/-! ### One instruction whose bytes are stored -/

theorem not_device_of_stored {s : State} {a : Word} (h : stored s a) : s.kindAt a ≠ .device := by
  rcases h with h | h <;> simp [h]

/-- The second byte of an instruction, where it is stored. -/
theorem fetch8_stored_second {s : State} (h0 : stored s s.pc) (h1 : stored s (s.pc + 1)) :
    s.fetch8.2.fetch8 = (s.byteAt (s.pc + 1), s.setPc (s.pc + 2)) := by
  rw [fetch8_stored h0, fetch8_stored (s := s.setPc (s.pc + 1)) h1]
  simp only [setPc_pc, add_one_add_one]
  rfl

/-- The third byte of an instruction, where it is stored. -/
theorem fetch8_stored_third {s : State} (h0 : stored s s.pc) (h1 : stored s (s.pc + 1)) (h2 : stored s (s.pc + 2)) :
    s.fetch8.2.fetch8.2.fetch8 = (s.byteAt (s.pc + 2), s.setPc (s.pc + 3)) := by
  rw [fetch8_stored_second h0 h1, fetch8_stored (s := s.setPc (s.pc + 2)) h2]
  simp only [setPc_pc, add_two_add_one]
  rfl

/-- Where all its bytes are stored, the instruction that the bytes at PC decode to is fetched, and PC alone moves, past
it. -/
theorem fetch_of_decode_stored {s : State} {i : Instr} {rest : List Byte}
    (hd : decode [s.byteAt s.pc, s.byteAt (s.pc + 1), s.byteAt (s.pc + 2)] = .ok (i, rest))
    (hs : ∀ k < (encode i).length, stored s (s.pc + BitVec.ofNat 16 k)) :
    s.fetch = .ok (i, s.setPc (s.pc + BitVec.ofNat 16 (encode i).length)) := by
  have bytes := encode_append_of_decode hd
  have h0 : stored s s.pc := by simpa using hs 0 (List.length_pos_of_ne_nil (encode_ne_nil i))
  cases he : encode i with
  | nil => exact absurd he (encode_ne_nil i)
  | cons b0 tail =>
  rw [he] at bytes hs
  cases tail with
  | nil =>
    obtain ⟨rfl, -⟩ : b0 = s.byteAt s.pc ∧ _ := by simpa using bytes
    rw [fetch_one (by rw [he, fetch8_stored h0]), fetch8_stored h0]
    rfl
  | cons b1 tail =>
  have h1 : stored s (s.pc + 1) := hs 1 (by simp)
  cases tail with
  | nil =>
    obtain ⟨rfl, rfl, -⟩ : b0 = s.byteAt s.pc ∧ b1 = s.byteAt (s.pc + 1) ∧ _ := by simpa using bytes
    rw [fetch_two (by rw [he, fetch8_stored_second h0 h1, fetch8_stored h0]), fetch8_stored_second h0 h1]
    rfl
  | cons b2 tail =>
    have h2 : stored s (s.pc + 2) := hs 2 (by simp)
    obtain ⟨rfl, rfl, rfl, rfl, -⟩ :
        b0 = s.byteAt s.pc ∧ b1 = s.byteAt (s.pc + 1) ∧ b2 = s.byteAt (s.pc + 2) ∧ tail = [] ∧ _ := by simpa using bytes
    have promised : ¬ (s.kindAt (s.pc + 1) = .device ∨ s.kindAt (s.pc + 2) = .device) :=
      not_or.mpr ⟨not_device_of_stored h1, not_device_of_stored h2⟩
    rw [fetch_three (by rw [he, fetch8_stored_third h0 h1 h2, fetch8_stored_second h0 h1, fetch8_stored h0])
      (fun h => promised h.2), fetch8_stored_third h0 h1 h2]
    rfl

end Sys2Proof.Proofs

/-! The statements of spec/00_scope.md R9, R10: a step that executes runs the instruction it fetches, whatever
stands at the addresses of its bytes; an instruction placed for a step is what that step runs. -/

namespace Sys2Proof.Proofs

open Sys2Proof.Machine Sys2Proof.Spec

/-! ### The boundary of a step -/

@[simp] theorem atBoundary_flags (s : State) : (atBoundary s).flags = s.flags := by simp [atBoundary]
@[simp] theorem atBoundary_pc (s : State) : (atBoundary s).pc = s.pc := by simp [atBoundary]
@[simp] theorem atBoundary_halted (s : State) : (atBoundary s).halted = s.halted := by simp [atBoundary]
@[simp] theorem atBoundary_eiPending (s : State) : (atBoundary s).eiPending = s.eiPending := by simp [atBoundary]
@[simp] theorem atBoundary_mem (s : State) : (atBoundary s).mem = s.mem := by simp [atBoundary]
@[simp] theorem atBoundary_map (s : State) : (atBoundary s).map = s.map := by simp [atBoundary]
@[simp] theorem atBoundary_byteAt (s : State) (a : Word) : (atBoundary s).byteAt a = s.byteAt a := by simp [State.byteAt]
@[simp] theorem atBoundary_kindAt (s : State) (a : Word) : (atBoundary s).kindAt a = s.kindAt a := by simp [State.kindAt]

/-! ### A step that executes -/

/-- A step that executes fetches and runs one instruction at its boundary (00_scope.md R10 steps 4 and 5). -/
theorem step_of_executes {s : State} (h : executes s) : step s = runInstruction (atBoundary s) := by
  obtain ⟨hreset, haccepted, hhalted⟩ := h
  have hcycle : step s = boundary (atBoundary s) := if_neg hreset
  simp [hcycle, boundary, haccepted, hhalted]

/-- The fetch answers an instruction: the step is its exec and the EI bookkeeping. -/
theorem step_of_fetch_ok {s t : State} {i : Instr} (h : executes s) (hf : (atBoundary s).fetch = .ok (i, t)) :
    step s = finishInstruction s.eiPending i (exec i t) := by
  simp [step_of_executes h, runInstruction, hf]

/-- The fetch is refused: so is the step. -/
theorem step_of_fetch_error {s : State} {r : Refusal} (h : executes s) (hf : (atBoundary s).fetch = .error r) :
    step s = .refused r := by
  simp [step_of_executes h, runInstruction, hf]

/-- A step that executes runs the instruction that the stored bytes at PC decode to, an undefined value included. -/
theorem step_of_decode_stored {s : State} {i : Instr} {rest : List Byte} (h : executes s)
    (hd : decode [s.byteAt s.pc, s.byteAt (s.pc + 1), s.byteAt (s.pc + 2)] = .ok (i, rest))
    (hs : ∀ k < (encode i).length, stored s (s.pc + BitVec.ofNat 16 k)) :
    step s = finishInstruction s.eiPending i
      (exec i { atBoundary s with pc := s.pc + BitVec.ofNat 16 (encode i).length }) := by
  have hf : (atBoundary s).fetch = .ok (i, (atBoundary s).setPc ((atBoundary s).pc + BitVec.ofNat 16 (encode i).length)) :=
    fetch_of_decode_stored (rest := rest) (by simpa only [atBoundary_byteAt, atBoundary_pc] using hd)
      (by simpa only [stored, atBoundary_kindAt, atBoundary_pc] using hs)
  rw [step_of_fetch_ok h hf, atBoundary_pc]
  rfl

/-- Settles O31: the bytes at PC decode to the instruction, so the fetch answers it. -/
theorem stepRunsDecoded : Obligations.StepRunsDecoded := by
  unfold Obligations.StepRunsDecoded
  intro s i rest hexec _ hdecode hstored
  exact step_of_decode_stored hexec hdecode hstored

/-- Settles O60: Fetch8 by what stands at PC; the step by the number of bytes that encode the instruction, and the two
refusals. -/
theorem stepFetchesAnyAddress : Obligations.StepFetchesAnyAddress := by
  unfold Obligations.StepFetchesAnyAddress
  refine ⟨fun s => ⟨fetch8_stored, fetch8_device, fetch8_absent⟩, ?_⟩
  intro s hexec one two three unused device2 device3
  have hunused : operandsUnused (atBoundary s).flags one.1 ↔ unused := by rw [atBoundary_flags]
  have hdevice2 : (atBoundary s).kindAt ((atBoundary s).pc + 1) = .device ↔ device2 := by
    rw [atBoundary_pc, atBoundary_kindAt]
  have hdevice3 : (atBoundary s).kindAt ((atBoundary s).pc + 2) = .device ↔ device3 := by
    rw [atBoundary_pc, atBoundary_kindAt]
  refine ⟨fun i => ⟨fun h => ?_, fun h => ?_, fun h promised => ?_⟩, fun hu h2 => ?_, fun hu h2 h3 => ?_⟩
  · exact step_of_fetch_ok hexec (fetch_one h)
  · exact step_of_fetch_ok hexec (fetch_two h)
  · exact step_of_fetch_ok hexec (fetch_three h (by rwa [hunused, hdevice2, hdevice3]))
  · have hf := fetch_refused_byte2 (hunused.mpr hu) (hdevice2.mpr h2)
    rw [atBoundary_pc] at hf
    exact step_of_fetch_error hexec hf
  · have hf := fetch_refused_byte3 (hunused.mpr hu) (mt hdevice2.mp h2) (hdevice3.mpr h3)
    rw [atBoundary_pc] at hf
    exact step_of_fetch_error hexec hf

/-! ### Placing bytes -/

theorem place_mem_wf (a : Word) (v : Byte) {s : State} (h : s.mem.wf = true) : (s.place a v).mem.wf = true :=
  Memory.write_wf h a v

/-- The address a byte was placed at is RAM or ROM. -/
theorem stored_place_same (a : Word) (v : Byte) (s : State) : stored (s.place a v) a := by
  unfold stored
  rw [kindAt_place]
  cases h : s.kindAt a <;> simp

/-- Placing a byte leaves RAM and ROM as they were. -/
theorem stored_place {s : State} {b : Word} (h : stored s b) (a : Word) (v : Byte) : stored (s.place a v) b := by
  unfold stored at *
  rw [kindAt_place]
  split
  · exact .inl rfl
  · exact h

/-- Three bytes placed at rising addresses, wrapping at FFFFh, are held there, in a canonical memory. -/
theorem placed_bytes (a : Word) (v0 v1 v2 : Byte) {s : State} (h : s.mem.wf = true) :
    let p := s.placeAll a [v0, v1, v2]
    [p.byteAt a, p.byteAt (a + 1), p.byteAt (a + 2)] = [v0, v1, v2] := by
  have e : s.placeAll a [v0, v1, v2] = ((s.place a v0).place (a + 1) v1).place (a + 2) v2 := by
    simp only [State.placeAll, add_one_add_one]
  have n01 : a ≠ a + 1 := by bv_omega
  have n02 : a ≠ a + 2 := by bv_omega
  have n12 : a + 1 ≠ a + 2 := by bv_omega
  simp only [e]
  rw [byteAt_place_other _ _ n02, byteAt_place_other _ _ n01, byteAt_place_same _ _ h,
    byteAt_place_other _ _ n12, byteAt_place_same _ _ (place_mem_wf _ _ h),
    byteAt_place_same _ _ (place_mem_wf _ _ (place_mem_wf _ _ h))]

@[simp] theorem placeAll_pc (a : Word) (bytes : List Byte) (s : State) : (s.placeAll a bytes).pc = s.pc := by
  induction bytes generalizing a s with
  | nil => rfl
  | cons v rest ih => simp [State.placeAll, ih]

/-- An address that is RAM or ROM stays so while bytes are placed. -/
theorem stored_placeAll {s : State} {b : Word} (h : stored s b) (a : Word) (bytes : List Byte) :
    stored (s.placeAll a bytes) b := by
  induction bytes generalizing a s with
  | nil => exact h
  | cons v rest ih => exact ih (stored_place h a v) (a + 1)

/-- Every address that a byte was placed at is RAM or ROM. -/
theorem stored_placeAll_of_lt (a : Word) (bytes : List Byte) (s : State) {k : Nat} (h : k < bytes.length) :
    stored (s.placeAll a bytes) (a + BitVec.ofNat 16 k) := by
  induction bytes generalizing a s k with
  | nil => cases h
  | cons v rest ih =>
    cases k with
    | zero =>
      rw [BitVec.add_zero]
      exact stored_placeAll (stored_place_same a v s) (a + 1) rest
    | succ k =>
      have e : a + BitVec.ofNat 16 (k + 1) = a + 1 + BitVec.ofNat 16 k := by bv_omega
      rw [e]
      exact ih (a + 1) (s.place a v) (Nat.lt_of_succ_lt_succ h)

/-! ### The state made to fetch -/

@[simp] theorem quieted_byteAt (s : State) (a : Word) : s.quieted.byteAt a = s.byteAt a := by simp [State.byteAt]
@[simp] theorem quieted_kindAt (s : State) (a : Word) : s.quieted.kindAt a = s.kindAt a := by simp [State.kindAt]

/-- No interrupt is accepted when every line is low and no RST 7.5 request is latched (60_exceptions.md R255). -/
theorem accepted_eq_none {s : State} (hl : s.env.lines = Lines.low) (h75 : s.i75 = false) : s.accepted = none := by
  simp [State.accepted, sourcesByPriority, State.eligible, hl, h75, Lines.low]

/-- The model's test for a step that fetches is the statements' `executes`. -/
theorem fetchesNext_iff {s : State} : s.fetchesNext = true ↔ executes s := by
  simp [State.fetchesNext, executes, resetRequested, atBoundary, and_assoc]

/-- The state made to fetch executes at its coming step. -/
theorem executes_quieted (s : State) : executes s.quieted := by
  unfold State.quieted
  split
  next h => exact fetchesNext_iff.mp h
  next =>
    refine ⟨?_, accepted_eq_none ?_ ?_, rfl⟩ <;>
      simp [resetRequested, atBoundary, State.takeSample, Lines.low]

/-- Settles O44: the word placed at PC is stored there, and the state made to fetch executes. -/
theorem placedWordRunsNext : Obligations.PlacedWordRunsNext := by
  unfold Obligations.PlacedWordRunsNext
  intro s nbits w i hwf hword q
  obtain ⟨rest, hd⟩ : ∃ rest, decode (tableBytes nbits w) = .ok (i, rest) := by
    unfold decodeTableWord at hword
    split at hword
    next j rest hj => cases hword; exact ⟨rest, hj⟩
    next => cases hword
  have hpc : q.pc = s.pc := by simp [q, State.withFetchWord]
  have hbytes : [q.byteAt s.pc, q.byteAt (s.pc + 1), q.byteAt (s.pc + 2)] = tableBytes nbits w := by
    simp only [q, State.withFetchWord, quieted_byteAt]
    exact placed_bytes s.pc _ _ _ hwf
  have hlength : (encode i).length ≤ (tableBytes nbits w).length := by
    rw [← encode_append_of_decode hd, List.length_append]
    exact Nat.le_add_right _ _
  have hstored : ∀ k < (encode i).length, stored q (s.pc + BitVec.ofNat 16 k) := fun k hk => by
    simpa only [q, State.withFetchWord, stored, quieted_kindAt] using
      stored_placeAll_of_lt s.pc (tableBytes nbits w) s (Nat.lt_of_lt_of_le hk hlength)
  rw [← hpc] at hbytes hstored ⊢
  exact step_of_decode_stored (executes_quieted _) (hbytes ▸ hd) hstored

end Sys2Proof.Proofs

/-! The dispatch: which shared operation an instruction runs, by the fields of its byte 1 (spec/30_encoding.md R88, R89).
Facts about every instruction are proved over these operations. -/

namespace Sys2Proof.Proofs

open Sys2Proof.Machine Sys2Proof.Spec

/-- Byte 1 of the instruction's encoding. -/
def byte1 (i : Instr) : Byte := (encode i).headD 0

theorem opcode_eq_byte1_toNat (i : Instr) : opcode i = (byte1 i).toNat := rfl

theorem byte1_of_encode_cons {i : Instr} {b : Byte} {rest : List Byte} (h : encode i = b :: rest) : byte1 i = b := by
  simp [byte1, h]

/-- The opcode map with its meanings: `Runs s r b` says that the instruction whose byte 1 is `b` answers `r` from `s`, by the
shared operation that the fields of `b` select (spec/30_encoding.md R88, R89). -/
inductive Runs (s : State) : Result → Byte → Prop
  -- data transfer
  | mov (dst src : Reg) : Runs s (moveReg dst src s) (op 1 dst.code src.code)
  | movFromM (dst : Reg) : Runs s (moveFromMem dst s) (op 1 dst.code 6)
  | movToM (src : Reg) : Runs s (moveToMem src s) (op 1 6 src.code)
  | mvi (dst : Reg) (v : Byte) : Runs s (moveImm dst v s) (op 0 dst.code 6)
  | mviM (v : Byte) : Runs s (moveImmMem v s) 0x36
  | lxi (p : Pair) (v : Word) : Runs s (loadPairImm p v s) (opPair 0 p.code 1)
  | ldaxB : Runs s (loadA s.regs.bc s) 0x0A
  | ldaxD : Runs s (loadA s.regs.de s) 0x1A
  | lda (a : Word) : Runs s (loadA a s) 0x3A
  | staxB : Runs s (storeA s.regs.bc s) 0x02
  | staxD : Runs s (storeA s.regs.de s) 0x12
  | sta (a : Word) : Runs s (storeA a s) 0x32
  | lhld (a : Word) : Runs s (loadHL a s) 0x2A
  | shld (a : Word) : Runs s (storeHL a s) 0x22
  | xchg : Runs s (exchangeDEHL s) 0xEB
  -- arithmetic
  | add (o : Opnd) : Runs s (addOpnd o false s) (op 2 0 o.code)
  | adc (o : Opnd) : Runs s (addOpnd o s.flags.cy s) (op 2 1 o.code)
  | sub (o : Opnd) : Runs s (subOpnd o false s) (op 2 2 o.code)
  | sbb (o : Opnd) : Runs s (subOpnd o s.flags.cy s) (op 2 3 o.code)
  | adi (v : Byte) : Runs s (.next (s.addToA v false)) 0xC6
  | aci (v : Byte) : Runs s (.next (s.addToA v s.flags.cy)) 0xCE
  | sui (v : Byte) : Runs s (.next (s.subFromA v false)) 0xD6
  | sbi (v : Byte) : Runs s (.next (s.subFromA v s.flags.cy)) 0xDE
  | inr (q : Reg) : Runs s (incReg q s) (op 0 q.code 4)
  | dcr (q : Reg) : Runs s (decReg q s) (op 0 q.code 5)
  | inrM : Runs s (incMem s) 0x34
  | dcrM : Runs s (decMem s) 0x35
  | inx (p : Pair) : Runs s (incPair p s) (opPair 0 p.code 3)
  | dcx (p : Pair) : Runs s (decPair p s) (opPair 0 p.code 11)
  | dad (p : Pair) : Runs s (addPair p s) (opPair 0 p.code 9)
  | daa : Runs s (decimalAdjust s) 0x27
  | cma : Runs s (complementA s) 0x2F
  | stc : Runs s (.next (s.setCarry true)) 0x37
  | cmc : Runs s (.next (s.setCarry (!s.flags.cy))) 0x3F
  | rlc : Runs s (rotateA (rotLeft s.regs.a) s) 0x07
  | rrc : Runs s (rotateA (rotRight s.regs.a) s) 0x0F
  | ral : Runs s (rotateA (rotLeftCarry s.regs.a s.flags.cy) s) 0x17
  | rar : Runs s (rotateA (rotRightCarry s.regs.a s.flags.cy) s) 0x1F
  -- logic
  | ana (o : Opnd) : Runs s (logicOpnd and8 o s) (op 2 4 o.code)
  | xra (o : Opnd) : Runs s (logicOpnd xor8 o s) (op 2 5 o.code)
  | ora (o : Opnd) : Runs s (logicOpnd or8 o s) (op 2 6 o.code)
  | cmp (o : Opnd) : Runs s (compareOpnd o s) (op 2 7 o.code)
  | ani (v : Byte) : Runs s (.next (s.logicA and8 v)) 0xE6
  | xri (v : Byte) : Runs s (.next (s.logicA xor8 v)) 0xEE
  | ori (v : Byte) : Runs s (.next (s.logicA or8 v)) 0xF6
  | cpi (v : Byte) : Runs s (.next (s.compareA v)) 0xFE
  -- branch
  | jmp (a : Word) : Runs s (.next (s.setPc a)) 0xC3
  | jcc (k : Cond) (a : Word) : Runs s (jumpIf k a s) (op 3 k.code 2)
  | call (a : Word) : Runs s (.next (s.callTo a)) 0xCD
  | ccc (k : Cond) (a : Word) : Runs s (callIf k a s) (op 3 k.code 4)
  | ret : Runs s (.next s.returnFrom) 0xC9
  | rcc (k : Cond) : Runs s (returnIf k s) (op 3 k.code 0)
  | rst (n : BitVec 3) : Runs s (restart n s) (op 3 n 7)
  | pchl : Runs s (.next (s.setPc s.hl)) 0xE9
  -- stack
  | push (p : Pair) (hp : p ≠ .sp) : Runs s (.next (s.push16 (s.pair p))) (opPair 3 p.code 5)
  | pushPsw : Runs s (pushPsw s) 0xF5
  | pop (p : Pair) (hp : p ≠ .sp) : Runs s (popPair p s) (opPair 3 p.code 1)
  | popPsw : Runs s (popPsw s) 0xF1
  | xthl : Runs s (exchangeTop s) 0xE3
  | sphl : Runs s (.next (s.setSp s.hl)) 0xF9
  -- input and output, control
  | inp (port : Byte) : Runs s (inputPort port s) 0xDB
  | out (port : Byte) : Runs s (.next (s.ioWrite port s.regs.a)) 0xD3
  | nop : Runs s (.next s) 0x00
  | di : Runs s (disableInterrupts s) 0xF3
  | ei : Runs s (enableInterrupts s) 0xFB
  | hlt : Runs s (halt s) 0x76
  | rim : Runs s (readMasks s) 0x20
  | sim : Runs s (setMasks s) 0x30
  | undefined (b : Byte) (hb : b ∈ undefinedOpcodes) : Runs s (.refused (.undefinedOpcode b)) b

/-- Every instruction runs the operation that its byte 1 selects: read off row by row. -/
theorem runs_exec (i : Instr) (s : State) : Runs s (exec i s) (byte1 i) := by
  cases i with
  | movBB | movBC | movBD | movBE | movBH | movBL | movBA | movCB | movCC | movCD | movCE | movCH | movCL | movCA
  | movDB | movDC | movDD | movDE | movDH | movDL | movDA | movEB | movEC | movED | movEE | movEH | movEL | movEA
  | movHB | movHC | movHD | movHE | movHH | movHL | movHA | movLB | movLC | movLD | movLE | movLH | movLL | movLA
  | movAB | movAC | movAD | movAE | movAH | movAL | movAA => exact .mov _ _
  | movBM | movCM | movDM | movEM | movHM | movLM | movAM => exact .movFromM _
  | movMB | movMC | movMD | movME | movMH | movML | movMA => exact .movToM _
  | mviB _ | mviC _ | mviD _ | mviE _ | mviH _ | mviL _ | mviA _ => exact .mvi _ _
  | lxiB _ | lxiD _ | lxiH _ | lxiSP _ => exact .lxi _ _
  | addB | addC | addD | addE | addH | addL | addM | addA => exact .add _
  | adcB | adcC | adcD | adcE | adcH | adcL | adcM | adcA => exact .adc _
  | subB | subC | subD | subE | subH | subL | subM | subA => exact .sub _
  | sbbB | sbbC | sbbD | sbbE | sbbH | sbbL | sbbM | sbbA => exact .sbb _
  | anaB | anaC | anaD | anaE | anaH | anaL | anaM | anaA => exact .ana _
  | xraB | xraC | xraD | xraE | xraH | xraL | xraM | xraA => exact .xra _
  | oraB | oraC | oraD | oraE | oraH | oraL | oraM | oraA => exact .ora _
  | cmpB | cmpC | cmpD | cmpE | cmpH | cmpL | cmpM | cmpA => exact .cmp _
  | inrB | inrC | inrD | inrE | inrH | inrL | inrA => exact .inr _
  | dcrB | dcrC | dcrD | dcrE | dcrH | dcrL | dcrA => exact .dcr _
  | inxB | inxD | inxH | inxSP => exact .inx _
  | dcxB | dcxD | dcxH | dcxSP => exact .dcx _
  | dadB | dadD | dadH | dadSP => exact .dad _
  | jnz _ | jz _ | jnc _ | jc _ | jpo _ | jpe _ | jp _ | jm _ => exact .jcc _ _
  | cnz _ | cz _ | cnc _ | cc _ | cpo _ | cpe _ | cp _ | cm _ => exact .ccc _ _
  | rnz | rz | rnc | rc | rpo | rpe | rp | rm => exact .rcc _
  | rst0 | rst1 | rst2 | rst3 | rst4 | rst5 | rst6 | rst7 => exact .rst _
  | pushB | pushD | pushH => exact .push _ (by decide)
  | popB | popD | popH => exact .pop _ (by decide)
  | undef08 | undef10 | undef18 | undef28 | undef38 | undefCB | undefD9 | undefDD | undefED | undefFD =>
    exact .undefined _ (by decide)
  | mviM _ => exact .mviM _
  | ldaxB => exact .ldaxB
  | ldaxD => exact .ldaxD
  | lda _ => exact .lda _
  | staxB => exact .staxB
  | staxD => exact .staxD
  | sta _ => exact .sta _
  | lhld _ => exact .lhld _
  | shld _ => exact .shld _
  | xchg => exact .xchg
  | adi _ => exact .adi _
  | aci _ => exact .aci _
  | sui _ => exact .sui _
  | sbi _ => exact .sbi _
  | inrM => exact .inrM
  | dcrM => exact .dcrM
  | daa => exact .daa
  | cma => exact .cma
  | stc => exact .stc
  | cmc => exact .cmc
  | rlc => exact .rlc
  | rrc => exact .rrc
  | ral => exact .ral
  | rar => exact .rar
  | ani _ => exact .ani _
  | xri _ => exact .xri _
  | ori _ => exact .ori _
  | cpi _ => exact .cpi _
  | jmp _ => exact .jmp _
  | call _ => exact .call _
  | ret => exact .ret
  | pchl => exact .pchl
  | pushPSW => exact .pushPsw
  | popPSW => exact .popPsw
  | xthl => exact .xthl
  | sphl => exact .sphl
  | inPort _ => exact .inp _
  | outPort _ => exact .out _
  | nop => exact .nop
  | di => exact .di
  | ei => exact .ei
  | hlt => exact .hlt
  | rim => exact .rim
  | sim => exact .sim

/-- The instruction that a fetch answers begins with the byte that Fetch8 read (00_scope.md R10 step 4). -/
theorem byte1_of_fetch_ok {s t : State} {i : Instr} (h : s.fetch = .ok (i, t)) : byte1 i = (s.memRead s.pc).1 := by
  have cell := formatEncodes_formatOf s.fetch8.1
  rw [← fetch8_fst]
  unfold State.fetch at h
  cases hf : formatOf s.fetch8.1 with
  | f1 j | undefined j =>
    simp only [hf] at h cell
    cases h
    exact byte1_of_encode_cons cell
  | f2 build =>
    simp only [hf] at h cell
    cases h
    exact byte1_of_encode_cons (cell _)
  | f3 build =>
    simp only [hf] at h cell
    split at h
    · cases h
    split at h
    · cases h
    cases h
    exact byte1_of_encode_cons (cell _)

end Sys2Proof.Proofs

/-! The flag classes (spec/10_state.md R27, 00_scope.md R12): what each operation leaves of the flags, with the class that
R27 puts its byte 1 in. -/

namespace Sys2Proof.Proofs

open Sys2Proof.Machine Sys2Proof.Spec

/-! ### The classes, by the fields of byte 1 -/

/-- The ALU operations on a register or M are in class `*`. -/
theorem writesAllFlags_alu : ∀ y z : BitVec 3, writesAllFlags (op 2 y z).toNat := by
  unfold writesAllFlags
  decide

/-- INR and DCR are in class `**`, M included. -/
theorem writesAllButCarry_inr_dcr :
    ∀ y : BitVec 3, writesAllButCarry (op 0 y 4).toNat ∧ writesAllButCarry (op 0 y 5).toNat := by
  unfold writesAllButCarry
  decide

/-- DAD is in class `†`. -/
theorem writesCarryOnly_dad : ∀ p : BitVec 2, writesCarryOnly (opPair 0 p 9).toNat := by
  unfold writesCarryOnly
  decide

theorem not_writesAllButCarry_of_writesCarryOnly {n : Nat} (h : writesCarryOnly n) : ¬ writesAllButCarry n := by
  have disjoint : ∀ k ∈ [0x09, 0x19, 0x29, 0x39, 0x07, 0x0F, 0x17, 0x1F, 0x37, 0x3F], ¬ (k % 8 = 4 ∨ k % 8 = 5) := by
    decide
  exact fun h' => disjoint n h h'.2

/-! ### What each operation leaves of the flags -/

/-- An operation keeps every flag; or it keeps all but CY and its byte 1 is in class `†`; or it keeps CY and its byte 1 is in
class `**`; or its byte 1 is in class `*`. -/
theorem runs_flags {s t : State} {r : Result} {b : Byte} (h : Runs s r b) (hr : r = .next t) :
    t.flags = s.flags ∨
    (writesCarryOnly b.toNat ∧ t.flags = { s.flags with cy := t.flags.cy }) ∨
    (writesAllButCarry b.toNat ∧ t.flags.cy = s.flags.cy) ∨
    writesAllFlags b.toNat := by
  cases h with
  | add | adc | sub | sbb | ana | xra | ora | cmp =>
    right; right; right
    exact writesAllFlags_alu _ _
  | adi | aci | sui | sbi | ani | xri | ori | cpi | daa | popPsw =>
    right; right; right
    unfold writesAllFlags
    decide
  | inr q => cases hr; right; right; left; exact ⟨(writesAllButCarry_inr_dcr q.code).1, rfl⟩
  | dcr q => cases hr; right; right; left; exact ⟨(writesAllButCarry_inr_dcr q.code).2, rfl⟩
  | inrM => cases hr; right; right; left; exact ⟨(writesAllButCarry_inr_dcr 6).1, rfl⟩
  | dcrM => cases hr; right; right; left; exact ⟨(writesAllButCarry_inr_dcr 6).2, rfl⟩
  | dad p => cases hr; right; left; exact ⟨writesCarryOnly_dad p.code, by simp⟩
  | rlc | rrc | ral | rar | stc | cmc =>
    cases hr; right; left
    refine ⟨?_, rfl⟩
    unfold writesCarryOnly
    decide
  | jcc | ccc | rcc | rim =>
    cases hr; left
    split <;> simp
  | undefined => cases hr
  | _ => cases hr; left; simp

/-- Settles O50, by the class that each operation is in. -/
theorem flagsByClass : Obligations.FlagsByClass := by
  unfold Obligations.FlagsByClass
  intro i s t h notAll
  rw [opcode_eq_byte1_toNat] at notAll ⊢
  rcases runs_flags (runs_exec i s) h with same | ⟨carryOnly, kept⟩ | ⟨allButCarry, kept⟩ | all
  · exact ⟨fun _ => by rw [same], fun _ => by rw [same], fun _ _ => same⟩
  · exact ⟨fun h' => absurd h' (not_writesAllButCarry_of_writesCarryOnly carryOnly), fun _ => kept,
      fun _ h' => absurd carryOnly h'⟩
  · exact ⟨fun _ => kept, fun h' => absurd allButCarry (not_writesAllButCarry_of_writesCarryOnly h'),
      fun h' => absurd allButCarry h'⟩
  · exact absurd all notAll

end Sys2Proof.Proofs

/-! The interrupt, serial and hidden state (spec/10_state.md R30 to R33, R35): what every operation leaves of it, and what a
step can do to IE, the masks and SOD. -/

namespace Sys2Proof.Proofs

open Sys2Proof.Machine Sys2Proof.Spec

/-! ### The reset state -/

/-- Settles O34, value by value. -/
theorem resetStateValues : Obligations.ResetStateValues := by
  unfold Obligations.ResetStateValues
  exact ⟨rfl, rfl, rfl⟩

/-- Settles O46: memory is the empty list, and no level was ever high. -/
theorem resetHasInvariant : Obligations.ResetHasInvariant := by
  unfold Obligations.ResetHasInvariant
  exact ⟨reset_mem_wf, rfl, rfl, rfl⟩

/-! ### What an operation leaves of the control state -/

/-- The interrupt, serial and hidden state with the remembered levels, the lines and the samples to come are those of `s`. -/
structure SameControl (s t : State) : Prop where
  ie : t.ie = s.ie
  m75 : t.m75 = s.m75
  m65 : t.m65 = s.m65
  m55 : t.m55 = s.m55
  i75 : t.i75 = s.i75
  trapLatch : t.trapLatch = s.trapLatch
  sod : t.sod = s.sod
  halted : t.halted = s.halted
  eiPending : t.eiPending = s.eiPending
  ieAtTrap : t.ieAtTrap = s.ieAtTrap
  ieAtTrapValid : t.ieAtTrapValid = s.ieAtTrapValid
  prev75 : t.prev75 = s.prev75
  prevTrap : t.prevTrap = s.prevTrap
  lines : t.env.lines = s.env.lines
  samples : t.env.samples = s.env.samples

theorem SameControl.refl (s : State) : SameControl s s := by
  constructor <;> rfl

theorem SameControl.controlBits_eq {s t : State} (h : SameControl s t) : controlBits t = controlBits s := by
  simp only [controlBits, h.ie, h.m75, h.m65, h.m55, h.i75, h.trapLatch, h.sod, h.halted, h.eiPending, h.ieAtTrap,
    h.ieAtTrapValid, h.prev75, h.prevTrap]

/-- Of the control state RIM clears IE_AT_TRAP_VALID and nothing else (43_stack_io_machine_control.md R244). -/
theorem readMasks_control {s t : State} (h : readMasks s = .next t) :
    SameControl { s with ieAtTrapValid := false } t := by
  cases h
  split <;> constructor <;> simp

/-- A fetch leaves the control state alone. -/
theorem fetch_control {s t : State} {i : Instr} (h : s.fetch = .ok (i, t)) : SameControl s t := by
  obtain ⟨e, pc, rfl, hlines, hsamples⟩ := fetch_ok h
  exact { SameControl.refl s with lines := hlines, samples := hsamples }

/-- An operation leaves the control state alone, or it is that of DI, EI, HLT, RIM or SIM (R239, R240, R243 to R245). -/
theorem runs_control {s t : State} {r : Result} {b : Byte} (h : Runs s r b) (hr : r = .next t) :
    SameControl s t ∨
    (b = 0xF3 ∧ SameControl { s with ie := false, eiPending := false } t) ∨
    (b = 0xFB ∧ SameControl { s with eiPending := true } t) ∨
    (b = 0x76 ∧ SameControl { s with halted := true } t) ∨
    (b = 0x20 ∧ SameControl { s with ieAtTrapValid := false } t) ∨
    (b = 0x30 ∧ setMasks s = .next t) := by
  cases h with
  | di => cases hr; right; left; exact ⟨rfl, .refl _⟩
  | ei => cases hr; right; right; left; exact ⟨rfl, .refl _⟩
  | hlt => cases hr; right; right; right; left; exact ⟨rfl, .refl _⟩
  | rim => right; right; right; right; left; exact ⟨rfl, readMasks_control hr⟩
  | sim => right; right; right; right; right; exact ⟨rfl, hr⟩
  | jcc | ccc | rcc =>
    cases hr; left
    split <;> constructor <;> simp
  | undefined => cases hr
  | _ =>
    cases hr; left
    constructor <;> simp [State.addToA, State.subFromA, State.logicA]

/-- Settles O53: byte 1 is none of the five that `runs_control` names. -/
theorem interruptStateFrame : Obligations.InterruptStateFrame := by
  unfold Obligations.InterruptStateFrame
  intro i s t h notControl
  rw [opcode_eq_byte1_toNat] at notControl
  rcases runs_control (runs_exec i s) h with same | ⟨hb, -⟩ | ⟨hb, -⟩ | ⟨hb, -⟩ | ⟨hb, -⟩ | ⟨hb, -⟩
  · exact ⟨same.controlBits_eq, same.lines, same.samples⟩
  all_goals
    rw [hb] at notControl
    exact absurd (by decide) notControl

/-- No instruction sets IE at once: EI only asks for it (10_state.md R30; R240). -/
theorem exec_ie_of_false {i : Instr} {s t : State} (h : exec i s = .next t) (hie : s.ie = false) : t.ie = false := by
  rcases runs_control (runs_exec i s) h with same | ⟨-, same⟩ | ⟨-, same⟩ | ⟨-, same⟩ | ⟨-, same⟩ | ⟨-, hsim⟩
  · exact same.ie.trans hie
  · exact same.ie
  · exact same.ie.trans hie
  · exact same.ie.trans hie
  · exact same.ie.trans hie
  · cases hsim
    exact hie

/-- The masks and SOD (10_state.md R30, R32) are those of `s`. -/
structure SameMasks (s t : State) : Prop where
  m75 : t.m75 = s.m75
  m65 : t.m65 = s.m65
  m55 : t.m55 = s.m55
  sod : t.sod = s.sod

theorem SameMasks.trans {s t u : State} (h : SameMasks s t) (h' : SameMasks t u) : SameMasks s u :=
  ⟨h'.m75.trans h.m75, h'.m65.trans h.m65, h'.m55.trans h.m55, h'.sod.trans h.sod⟩

theorem afterInstruction_sameMasks (p : Bool) (i : Instr) (s : State) : SameMasks s (s.afterInstruction p i) := by
  constructor <;> simp

theorem atBoundary_sameMasks (s : State) : SameMasks s (atBoundary s) := by
  constructor <;> simp [atBoundary]

theorem SameControl.sameMasks {s t : State} (h : SameControl s t) : SameMasks s t :=
  ⟨h.m75, h.m65, h.m55, h.sod⟩

/-- An instruction other than SIM leaves the masks and SOD alone. -/
theorem exec_sameMasks {i : Instr} {s t : State} (h : exec i s = .next t) (notSim : byte1 i ≠ 0x30) : SameMasks s t := by
  rcases runs_control (runs_exec i s) h with same | ⟨-, same⟩ | ⟨-, same⟩ | ⟨-, same⟩ | ⟨-, same⟩ | ⟨hb, -⟩
  iterate 5 exact ⟨same.m75, same.m65, same.m55, same.sod⟩
  · exact absurd hb notSim

/-! ### What a step does to IE, the masks and SOD -/

@[simp] theorem takeInterrupt_ie (v : Vectored) (s : State) : (s.takeInterrupt v).ie = false := by
  simp [State.takeInterrupt]

/-- An INTR acknowledge that is not refused is a call, after what every entry clears (60_exceptions.md R258). -/
theorem acknowledgeIntr_eq_callTo {s t : State} (h : acknowledgeIntr s = .next t) :
    ∃ a, t = s.clearForEntry.intaReply.2.callTo a := by
  obtain ⟨i, allowed, hexec⟩ := acknowledgeIntr_next h
  obtain ⟨a, hcall⟩ := exec_allowedAtInta allowed s.clearForEntry.intaReply.2
  rw [hcall] at hexec
  cases hexec
  exact ⟨a, rfl⟩

/-- Settles O42: an entry and a reset clear IE, no instruction sets it, and with no enable pending the bookkeeping of R241
does nothing. -/
theorem disabledUntilEi : Obligations.DisabledUntilEi := by
  unfold Obligations.DisabledUntilEi
  intro s t hie hpending h
  rcases step_cases s with
    ⟨-, reset⟩ | ⟨-, ⟨v, -, entry⟩ | ⟨-, intr⟩ | ⟨-, -, idle⟩ | ⟨-, -, r, -, refused⟩ | ⟨-, -, i, u, fetched, ran⟩⟩
  · rw [reset] at h; cases h; rfl
  · rw [entry] at h; cases h; simp
  · obtain ⟨a, rfl⟩ := acknowledgeIntr_eq_callTo (intr ▸ h)
    simp
  · rw [idle] at h; cases h; simp [hie]
  · rw [refused] at h; cases h
  · obtain ⟨w, hexec, rfl⟩ := finishInstruction_next (ran ▸ h)
    have hu : u.ie = false := by simp [(fetch_control fetched).ie, hie]
    rw [hpending]
    exact exec_ie_of_false hexec hu

/-- Settles O43: neither an entry nor an idle step writes a mask or SOD; an instruction that does is SIM, whose byte 1 is the
byte fetched. -/
theorem masksOnlyBySimOrReset : Obligations.MasksOnlyBySimOrReset := by
  unfold Obligations.MasksOnlyBySimOrReset
  intro s t h
  rcases step_cases s with
    ⟨hreset, -⟩ | ⟨noReset, ⟨v, -, entry⟩ | ⟨-, intr⟩ | ⟨-, -, idle⟩ | ⟨-, -, r, -, refused⟩ |
      ⟨notAccepted, notHalted, i, u, fetched, ran⟩⟩
  · exact .inr (.inl hreset)
  · rw [entry] at h; cases h; simp
  · obtain ⟨a, rfl⟩ := acknowledgeIntr_eq_callTo (intr ▸ h)
    simp
  · rw [idle] at h; cases h; simp
  · rw [refused] at h; cases h
  · obtain ⟨w, hexec, rfl⟩ := finishInstruction_next (ran ▸ h)
    have byteRead : byte1 i = ((atBoundary s).memRead s.pc).1 := by
      simpa [atBoundary] using byte1_of_fetch_ok fetched
    by_cases hsim : byte1 i = 0x30
    · have hexecutes : executes s := ⟨by simp [resetRequested, noReset], notAccepted, notHalted⟩
      exact .inr (.inr ⟨hexecutes, byteRead ▸ hsim⟩)
    · have kept : SameMasks s (w.afterInstruction s.eiPending i) :=
        (atBoundary_sameMasks s).trans <| (fetch_control fetched).sameMasks.trans <|
          (exec_sameMasks hexec hsim).trans (afterInstruction_sameMasks _ _ w)
      exact .inl ⟨kept.m75, kept.m65, kept.m55, kept.sod⟩

end Sys2Proof.Proofs

/-! Memory (spec/20_memory.md R51, R52): what one write leaves, and at which addresses each instruction stores. Every fact about
memory that no operation changes is read off `StoresOnly`. -/

namespace Sys2Proof.Proofs

open Sys2Proof.Machine Sys2Proof.Spec

/-! ### One write -/

theorem memWrite_mem_of_notRam {a : Word} {s : State} (v : Byte) (h : s.kindAt a ≠ .ram) : (s.memWrite a v).mem = s.mem := by
  rcases memWrite_cases a v s with ⟨ram, -⟩ | ⟨-, e⟩ | ⟨-, e⟩
  · exact absurd ram h
  · rw [e]
  · simp [e]

/-- A device receives what is written to it (20_memory.md R51). -/
theorem memWrite_events_of_device {a : Word} {s : State} (v : Byte) (h : s.kindAt a = .device) :
    (s.memWrite a v).env.events = s.env.events ++ [.deviceWrite a v] := by
  simp only [State.memWrite, h]
  rfl

theorem memWrite_env_of_not_device {a : Word} {s : State} (v : Byte) (h : s.kindAt a ≠ .device) :
    (s.memWrite a v).env = s.env := by
  rcases memWrite_cases a v s with ⟨-, e⟩ | ⟨-, e⟩ | ⟨device, -⟩
  · rw [e]
  · rw [e]
  · exact absurd device h

/-- Settles O56, by what stands at the address written to. -/
theorem writeThenRead : Obligations.WriteThenRead := by
  unfold Obligations.WriteThenRead
  intro s a b v hwf
  refine ⟨fun ram => ?_, memWrite_mem_of_notRam v, memWrite_events_of_device v, memWrite_env_of_not_device v⟩
  split
  next same => rw [same, byteAt_memWrite_same v ram hwf]
  next other => exact byteAt_memWrite_other v s other

/-! ### Where an operation stores -/

/-- From `s` to `t` the memory map is kept, and memory changes at most at the addresses listed, where these are RAM
(20_memory.md R51, R52). -/
structure StoresOnly (addrs : List Word) (s t : State) : Prop where
  map : t.map = s.map
  outside : ∀ a, a ∉ addrs → t.byteAt a = s.byteAt a
  notRam : ∀ a, s.kindAt a ≠ .ram → t.byteAt a = s.byteAt a

/-- Memory is as it was, so it may be said to change at any addresses at most. -/
theorem StoresOnly.of_mem_eq {addrs : List Word} {s t : State} (hmap : t.map = s.map) (hmem : t.mem = s.mem) :
    StoresOnly addrs s t where
  map := hmap
  outside _ _ := by simp only [State.byteAt, hmem]
  notRam _ _ := by simp only [State.byteAt, hmem]

theorem StoresOnly.kindAt {addrs : List Word} {s t : State} (h : StoresOnly addrs s t) (a : Word) :
    t.kindAt a = s.kindAt a := by
  simp only [State.kindAt, h.map]

theorem StoresOnly.trans {addrs : List Word} {s t u : State} (h : StoresOnly addrs s t) (h' : StoresOnly addrs t u) :
    StoresOnly addrs s u where
  map := h'.map.trans h.map
  outside a ha := (h'.outside a ha).trans (h.outside a ha)
  notRam a ha := (h'.notRam a (by rwa [h.kindAt])).trans (h.notRam a ha)

theorem memWrite_storesOnly {addrs : List Word} {a : Word} (ha : a ∈ addrs) (v : Byte) (s : State) :
    StoresOnly addrs s (s.memWrite a v) where
  map := memWrite_map a v s
  outside _ hb := byteAt_memWrite_other v s (fun e => hb (e ▸ ha))
  notRam _ hb := byteAt_memWrite_notRam v s hb

theorem pushBytes_storesOnly (hi lo : Byte) (s : State) : StoresOnly (pushed s) s (s.pushBytes hi lo) :=
  have high : StoresOnly (pushed s) s (s.memWrite (s.sp - 1) hi) := memWrite_storesOnly (by simp [pushed]) hi s
  have low : StoresOnly (pushed s) (s.memWrite (s.sp - 1) hi) ((s.memWrite (s.sp - 1) hi).memWrite (s.sp - 2) lo) :=
    memWrite_storesOnly (by simp [pushed]) lo _
  (high.trans low).trans (.of_mem_eq rfl rfl)

theorem callTo_storesOnly (a : Word) (s : State) : StoresOnly (pushed s) s (s.callTo a) :=
  (pushBytes_storesOnly _ _ s).trans (.of_mem_eq rfl rfl)

/-- A conditional call stores where it is taken (42_branch_control.md R202 to R209). -/
theorem callIf_storesOnly {k : Cond} {a : Word} {s t : State} {taken : Prop} [Decidable taken]
    (h : callIf k a s = .next t) (htaken : s.flags.holds k = true ↔ taken) :
    StoresOnly (if taken then pushed s else []) s t := by
  cases h
  simp only [← htaken]
  split
  · exact callTo_storesOnly a s
  · exact .of_mem_eq rfl rfl

/-- INR M and DCR M: a read of the byte at HL, then a write there. -/
theorem readThenWrite_storesOnly (a : Word) (v : Byte) (s : State) :
    StoresOnly [a] s ((s.memRead a).2.memWrite a v) :=
  have read : StoresOnly [a] s (s.memRead a).2 := .of_mem_eq (by simp) (by simp)
  read.trans (memWrite_storesOnly (by simp) v _)

theorem memWrite16_storesOnly (a v : Word) (s : State) : StoresOnly [a, a + 1] s (s.memWrite16 a v) :=
  have low : StoresOnly [a, a + 1] s (s.memWrite a (lowByte v)) := memWrite_storesOnly (by simp) _ s
  low.trans (memWrite_storesOnly (by simp) (highByte v) _)

theorem pushPsw_storesOnly {s t : State} (h : pushPsw s = .next t) : StoresOnly (pushed s) s t := by
  cases h
  have drawn : StoresOnly (pushed s) s s.anyBit.2.anyBit.2.anyBit.2 := .of_mem_eq (by simp) (by simp)
  have stores := pushBytes_storesOnly s.regs.a
    (s.flags.toByte s.anyBit.1 s.anyBit.2.anyBit.1 s.anyBit.2.anyBit.2.anyBit.1) s.anyBit.2.anyBit.2.anyBit.2
  have slots : pushed s.anyBit.2.anyBit.2.anyBit.2 = pushed s := by simp [pushed]
  exact drawn.trans (slots ▸ stores)

theorem exchangeTop_storesOnly {s t : State} (h : exchangeTop s = .next t) : StoresOnly [s.sp, s.sp + 1] s t := by
  cases h
  have read : StoresOnly [s.sp, s.sp + 1] s (s.memRead16 s.sp).2 := .of_mem_eq (by simp) (by simp)
  have high := read.trans (memWrite_storesOnly (a := s.sp + 1) (by simp) s.regs.h _)
  have low := high.trans (memWrite_storesOnly (a := s.sp) (by simp) s.regs.l _)
  exact low.trans (.of_mem_eq (by simp) (by simp))

/-! ### Where an instruction stores -/

/-- The values of byte 1 whose instruction may store (20_memory.md R52). -/
def mayStore (b : Byte) : Bool :=
  List.contains [0x02, 0x12, 0x22, 0x32, 0x34, 0x35, 0x36,
    0x70, 0x71, 0x72, 0x73, 0x74, 0x75, 0x77,
    0xC4, 0xCC, 0xD4, 0xDC, 0xE4, 0xEC, 0xF4, 0xFC, 0xCD,
    0xC7, 0xCF, 0xD7, 0xDF, 0xE7, 0xEF, 0xF7, 0xFF,
    0xC5, 0xD5, 0xE5, 0xF5, 0xE3] b

theorem mayStore_rst : ∀ n : BitVec 3, mayStore (op 3 n 7) = true := by decide

/-- An operation whose byte 1 is not one of `mayStore` leaves memory and its map as they were. -/
theorem runs_memory_of_not_mayStore {s t : State} {r : Result} {b : Byte} (h : Runs s r b) (hr : r = .next t)
    (hb : mayStore b = false) : t.map = s.map ∧ t.mem = s.mem := by
  cases h with
  | movToM src => cases src <;> cases hb
  | ccc k => cases k <;> cases hb
  | rst n => rw [mayStore_rst n] at hb; cases hb
  | push p hp =>
    cases p with
    | sp => exact absurd rfl hp
    | b | d | h => cases hb
  | mviM | staxB | staxD | sta | shld | inrM | dcrM | call | pushPsw | xthl => cases hb
  | jcc | rcc | rim =>
    cases hr
    split <;> simp
  | undefined => cases hr
  | _ =>
    cases hr
    simp [State.addToA, State.subFromA, State.logicA]

/-- Every instruction stores only at the addresses that the statements list for it. -/
theorem exec_storesOnly {i : Instr} {s t : State} (h : exec i s = .next t) : StoresOnly (storesTo i s) s t := by
  cases i with
  | movMB | movMC | movMD | movME | movMH | movML | movMA | mviM _ | staxB | staxD | sta _ =>
    cases h
    exact memWrite_storesOnly (List.mem_singleton_self _) _ s
  | inrM | dcrM =>
    cases h
    exact (readThenWrite_storesOnly s.hl _ s).trans (.of_mem_eq rfl rfl)
  | shld a => cases h; exact memWrite16_storesOnly a _ s
  | pushB | pushD | pushH => cases h; exact pushBytes_storesOnly _ _ s
  | pushPSW => exact pushPsw_storesOnly h
  | xthl => exact exchangeTop_storesOnly h
  | call _ | rst0 | rst1 | rst2 | rst3 | rst4 | rst5 | rst6 | rst7 => cases h; exact callTo_storesOnly _ s
  | cnz _ | cz _ | cnc _ | cc _ | cpo _ | cpe _ | cp _ | cm _ => exact callIf_storesOnly h (by simp [Flags.holds])
  | _ =>
    obtain ⟨hmap, hmem⟩ := runs_memory_of_not_mayStore (runs_exec _ s) h rfl
    exact .of_mem_eq hmap hmem

/-- Settles O51: the addresses that `exec_storesOnly` allows are those of the statement. -/
theorem memoryFrame : Obligations.MemoryFrame := by
  unfold Obligations.MemoryFrame
  intro i s t a h ha
  exact (exec_storesOnly h).outside a ha

/-! ### Where a step stores -/

theorem atBoundary_storesOnly (addrs : List Word) (s : State) : StoresOnly addrs s (atBoundary s) :=
  .of_mem_eq (by simp) (by simp)

/-- A fetch stores nothing. -/
theorem fetch_storesOnly {i : Instr} {s t : State} (addrs : List Word) (h : s.fetch = .ok (i, t)) :
    StoresOnly addrs s t := by
  obtain ⟨e, pc, rfl, -, -⟩ := fetch_ok h
  exact .of_mem_eq rfl rfl

/-- An interrupt entry stores PC on the stack (60_exceptions.md R257). -/
theorem takeInterrupt_storesOnly (v : Vectored) (s : State) : StoresOnly (pushed s) s (s.takeInterrupt v) :=
  have cleared : StoresOnly (pushed s) s (s.answerRequest v).clearForEntry := .of_mem_eq (by simp) (by simp)
  have slots : pushed (s.answerRequest v).clearForEntry = pushed s := by simp [pushed]
  cleared.trans (slots ▸ callTo_storesOnly v.vector _)

/-- An INTR acknowledge stores PC on the stack (60_exceptions.md R258). -/
theorem acknowledgeIntr_storesOnly {s t : State} (h : acknowledgeIntr s = .next t) : StoresOnly (pushed s) s t := by
  obtain ⟨a, rfl⟩ := acknowledgeIntr_eq_callTo h
  have supplied : StoresOnly (pushed s) s s.clearForEntry.intaReply.2 := .of_mem_eq (by simp) (by simp)
  have slots : pushed s.clearForEntry.intaReply.2 = pushed s := by simp [pushed]
  exact supplied.trans (slots ▸ callTo_storesOnly a _)

/-- Every step stores at some addresses only: none on a reset and in the halt state, the stack slots on an entry, those of the
instruction when one runs. -/
theorem step_storesOnly {s t : State} (h : step s = .next t) : ∃ addrs, StoresOnly addrs s t := by
  rcases step_cases s with
    ⟨-, reset⟩ | ⟨-, ⟨v, -, entry⟩ | ⟨-, intr⟩ | ⟨-, -, idle⟩ | ⟨-, -, r, -, refused⟩ | ⟨-, -, i, u, fetched, ran⟩⟩
  · rw [reset] at h; cases h
    exact ⟨[], .of_mem_eq (by simp) (by simp)⟩
  · rw [entry] at h; cases h
    exact ⟨_, (atBoundary_storesOnly _ s).trans (takeInterrupt_storesOnly v _)⟩
  · exact ⟨_, (atBoundary_storesOnly _ s).trans (acknowledgeIntr_storesOnly (intr ▸ h))⟩
  · rw [idle] at h; cases h
    exact ⟨[], atBoundary_storesOnly [] s⟩
  · rw [refused] at h; cases h
  · obtain ⟨w, hexec, rfl⟩ := finishInstruction_next (ran ▸ h)
    have fetch := (atBoundary_storesOnly (storesTo i u) s).trans (fetch_storesOnly _ fetched)
    exact ⟨_, (fetch.trans (exec_storesOnly hexec)).trans (.of_mem_eq (by simp) (by simp))⟩

/-- Settles O47: at whichever addresses a step stores, it keeps the map and what is not RAM. -/
theorem onlyRamChanges : Obligations.OnlyRamChanges := by
  unfold Obligations.OnlyRamChanges
  intro s t h
  obtain ⟨_, stores⟩ := step_storesOnly h
  exact ⟨stores.map, stores.notRam⟩

end Sys2Proof.Proofs

/-! A store is seen by the next fetch of its address (spec/20_memory.md R63): what each storing form leaves at each of its
addresses. -/

namespace Sys2Proof.Proofs

open Sys2Proof.Machine Sys2Proof.Spec

/-! ### What a fetch sees -/

/-- Fetch8 of an address that is RAM reads the byte held there. -/
theorem fetch8_fst_of_ram {s : State} {a : Word} (h : s.kindAt a = .ram) :
    ({ s with pc := a } : State).fetch8.1 = s.byteAt a := by
  rw [fetch8_stored (s := { s with pc := a }) (.inl h)]
  rfl

/-- A byte that the instruction leaves at an address is seen there, since no instruction changes the map. -/
theorem storeSeen_of_byteAt {s t : State} {i : Instr} {a : Word} {v : Byte} (h : exec i s = .next t)
    (hv : s.kindAt a = .ram → t.byteAt a = v) : storeSeen s i a v := by
  intro ram
  refine ⟨t, h, ?_⟩
  rw [fetch8_fst_of_ram (by rwa [(exec_storesOnly h).kindAt]), hv ram]

/-- An instruction that leaves memory as one write does. -/
theorem storeSeen_of_write {s t : State} {i : Instr} {a : Word} {v : Byte} (hwf : s.mem.wf = true)
    (h : exec i s = .next t) (hmem : s.kindAt a = .ram → t.mem = (s.memWrite a v).mem) : storeSeen s i a v :=
  storeSeen_of_byteAt h fun ram => by
    rw [State.byteAt, hmem ram]
    exact byteAt_memWrite_same v ram hwf

/-- An instruction that leaves memory as two writes at different addresses do. The writes are made from `u`: reads and draws
may come before them. -/
theorem storeSeen_of_two_writes {s t u : State} {i : Instr} {a b : Word} {v w : Byte} (hwf : u.mem.wf = true)
    (hmap : u.map = s.map) (h : exec i s = .next t) (hmem : t.mem = ((u.memWrite a v).memWrite b w).mem)
    (hne : a ≠ b) : storeSeen s i a v ∧ storeSeen s i b w := by
  have hkind (x : Word) : u.kindAt x = s.kindAt x := by simp only [State.kindAt, hmap]
  have hbyte (x : Word) : t.byteAt x = ((u.memWrite a v).memWrite b w).byteAt x := by simp only [State.byteAt, hmem]
  constructor
  · refine storeSeen_of_byteAt h fun ram => ?_
    rw [hbyte, byteAt_memWrite_other w _ hne, byteAt_memWrite_same v ((hkind a).trans ram) hwf]
  · refine storeSeen_of_byteAt h fun ram => ?_
    rw [hbyte, byteAt_memWrite_same w ((kindAt_memWrite ..).trans ((hkind b).trans ram)) (memWrite_wf a v hwf)]

/-- An instruction that leaves memory as a push does: the high byte at SP-1, the low byte at SP-2 (43 R230). -/
theorem storeSeen_of_push {s t u : State} {i : Instr} {hi lo : Byte} (hwf : u.mem.wf = true) (hmap : u.map = s.map)
    (hsp : u.sp = s.sp) (h : exec i s = .next t) (hmem : t.mem = (u.pushBytes hi lo).mem) :
    storeSeen s i (s.sp - 1) hi ∧ storeSeen s i (s.sp - 2) lo :=
  storeSeen_of_two_writes hwf hmap h (by rw [hmem, State.pushBytes, hsp, setSp_mem]) (by bv_omega)

/-- An instruction that pushes PC, as a call does. -/
theorem storeSeen_of_callTo {s : State} {i : Instr} {a : Word} (hwf : s.mem.wf = true)
    (h : exec i s = .next (s.callTo a)) :
    storeSeen s i (s.sp - 1) (highByte s.pc) ∧ storeSeen s i (s.sp - 2) (lowByte s.pc) :=
  storeSeen_of_push hwf rfl rfl h rfl

/-! ### What the bytes of a storing form run -/

/-- Bytes are the encoding of the instruction that they decode to, and of no other. -/
theorem eq_of_encode {i j : Instr} {bytes : List Byte} (h : encode i = bytes) (hd : decode bytes = .ok (j, [])) :
    i = j := by
  have e := decode_encode i
  rw [h, hd] at e
  cases e
  rfl

/-- `01 110 sss` is MOV M,r. -/
theorem exec_of_encode_movToM {i : Instr} {r : Reg} (h : encode i = [op 1 6 r.code]) (s : State) :
    exec i s = moveToMem r s := by
  cases r <;> (obtain rfl := eq_of_encode h rfl; rfl)

/-- `11 pp 0101` is PUSH pp, where pp is not 11. -/
theorem exec_of_encode_push {i : Instr} {p : Pair} (hp : p ≠ .sp) (h : encode i = [opPair 3 p.code 5]) (s : State) :
    exec i s = .next (s.push16 (s.pair p)) := by
  cases p with
  | sp => exact absurd rfl hp
  | b | d | h => obtain rfl := eq_of_encode h rfl; rfl

theorem exists_lt_eq_ofNat (y : BitVec 3) : ∃ code < 8, y = BitVec.ofNat 3 code := ⟨y.toNat, y.isLt, by simp⟩

/-- `11 ccc 100` is the conditional call. -/
theorem exec_of_encode_callIf {i : Instr} {ccc : BitVec 3} {lo hi : Byte} (h : encode i = [op 3 ccc 4, lo, hi])
    (s : State) : exec i s = callIf (Cond.ofCode ccc.toNat) (joinBytes hi lo) s := by
  obtain ⟨code, hcode, rfl⟩ := exists_lt_eq_ofNat ccc
  interval_cases code <;> (obtain rfl := eq_of_encode h rfl; rfl)

/-- `11 nnn 111` is RST n. -/
theorem exec_of_encode_restart {i : Instr} {n : BitVec 3} (h : encode i = [op 3 n 7]) (s : State) :
    exec i s = restart n s := by
  obtain ⟨code, hcode, rfl⟩ := exists_lt_eq_ofNat n
  interval_cases code <;> (obtain rfl := eq_of_encode h rfl; rfl)

theorem pairValue_eq_pair (s : State) (p : Pair) : pairValue s p = s.pair p := by cases p <;> rfl

/-! ### The storing forms -/

/-- A conditional call that is taken pushes PC. -/
theorem storeSeen_callIf {s : State} {i : Instr} {ccc : BitVec 3} {lo hi : Byte} (hwf : s.mem.wf = true)
    (h : encode i = [op 3 ccc 4, lo, hi]) (taken : conditionHolds s.flags ccc) :
    storeSeen s i (s.sp - 1) (highByte s.pc) ∧ storeSeen s i (s.sp - 2) (lowByte s.pc) :=
  storeSeen_of_callTo hwf ((exec_of_encode_callIf h s).trans
    (by rw [callIf, if_pos ((holds_ofCode_iff s.flags ccc).mpr taken)]))

/-- INR M and DCR M store a function of the byte that RAM holds at HL. -/
theorem readThenWrite_mem_of_ram {s : State} {a : Word} (f : Byte → Byte) (ram : s.kindAt a = .ram) :
    ((s.memRead a).2.memWrite a (f (s.memRead a).1)).mem = (s.memWrite a (f (s.byteAt a))).mem := by
  rw [memRead_stored (.inl ram)]

/-- The flag byte holds the five flags, whatever its undefined bits are (10_state.md R25, R29): on the bits, all cases. -/
theorem ofByte_toByte (f : Flags) (u5 u3 u1 : Bool) : Flags.ofByte (f.toByte u5 u3 u1) = f := by
  have bits : ∀ s z ac p cy u5 u3 u1 : Bool,
      Flags.ofByte (Flags.toByte ⟨s, z, ac, p, cy⟩ u5 u3 u1) = ⟨s, z, ac, p, cy⟩ := by decide
  exact bits f.s f.z f.ac f.p f.cy u5 u3 u1

/-- PUSH PSW: A above a flag byte, pushed after the undefined bits are drawn (43 R232). -/
theorem storeSeen_pushPsw {s : State} (hwf : s.mem.wf = true) :
    storeSeen s .pushPSW (s.sp - 1) s.regs.a ∧ ∃ f : Byte,
      f.getLsbD 7 = s.flags.s ∧ f.getLsbD 6 = s.flags.z ∧ f.getLsbD 4 = s.flags.ac ∧ f.getLsbD 2 = s.flags.p ∧
      f.getLsbD 0 = s.flags.cy ∧ storeSeen s .pushPSW (s.sp - 2) f := by
  obtain ⟨high, low⟩ := storeSeen_of_push (s := s) (u := s.anyBit.2.anyBit.2.anyBit.2) (i := .pushPSW)
    (by simpa using hwf) (by simp) (by simp) rfl rfl
  have flags := ofByte_toByte s.flags s.anyBit.1 s.anyBit.2.anyBit.1 s.anyBit.2.anyBit.2.anyBit.1
  exact ⟨high, _, congrArg Flags.s flags, congrArg Flags.z flags, congrArg Flags.ac flags, congrArg Flags.p flags,
    congrArg Flags.cy flags, low⟩

/-- XTHL: both reads come first, then H at SP+1, L at SP (43 R235). -/
theorem storeSeen_xthl {s : State} (hwf : s.mem.wf = true) :
    storeSeen s .xthl (s.sp + 1) s.regs.h ∧ storeSeen s .xthl s.sp s.regs.l :=
  storeSeen_of_two_writes (u := (s.memRead16 s.sp).2) (by simpa using hwf) (by simp) rfl (setPair_mem ..) (by bv_omega)

/-- SHLD: L at the address, H at the next (40 R129). -/
theorem storeSeen_shld {s : State} {a : Word} (hwf : s.mem.wf = true) :
    storeSeen s (.shld a) a s.regs.l ∧ storeSeen s (.shld a) (a + 1) s.regs.h :=
  storeSeen_of_two_writes hwf rfl rfl
    (by simp only [State.memWrite16, State.hl, Regs.hl, highByte_joinBytes, lowByte_joinBytes]) (by bv_omega)

/-- Settles O59, form by form: the bytes name the operation, whose memory is that of one or two writes. -/
theorem storeSeenByFetch : Obligations.StoreSeenByFetch := by
  unfold Obligations.StoreSeenByFetch
  intro s hwf hl
  refine ⟨fun a v ram => ?_, fun i lo hi => ?_⟩
  · rw [fetch8_fst_of_ram ((kindAt_memWrite ..).trans ram), byteAt_memWrite_same v ram hwf]
  intro a pushesPc
  refine ⟨fun h => ?staxB, fun h => ?staxD, fun h => ?sta, fun r h => ?movToM, fun h => ?mviM, fun h => ?inrM,
    fun h => ?dcrM, fun h => ?shld, fun p hp h => ?push, fun h => ?pushPsw, fun h => ?call, fun ccc h taken => ?callIf,
    fun n h => ?rst, fun h => ?xthl⟩
  case staxB | staxD | sta | mviM =>
    obtain rfl := eq_of_encode h rfl
    exact storeSeen_of_write hwf rfl fun _ => rfl
  case movToM => exact storeSeen_of_write hwf (exec_of_encode_movToM h s) fun _ => rfl
  case inrM =>
    obtain rfl := eq_of_encode h rfl
    exact storeSeen_of_write hwf rfl (readThenWrite_mem_of_ram (· + 1))
  case dcrM =>
    obtain rfl := eq_of_encode h rfl
    exact storeSeen_of_write hwf rfl (readThenWrite_mem_of_ram (· - 1))
  case shld => obtain rfl := eq_of_encode h rfl; exact storeSeen_shld hwf
  case push =>
    rw [pairValue_eq_pair]
    exact storeSeen_of_push hwf rfl rfl (exec_of_encode_push hp h s) rfl
  case pushPsw => obtain rfl := eq_of_encode h rfl; exact storeSeen_pushPsw hwf
  case call => obtain rfl := eq_of_encode h rfl; exact storeSeen_of_callTo hwf rfl
  case callIf => exact storeSeen_callIf hwf h taken
  case rst => exact storeSeen_of_callTo hwf (exec_of_encode_restart h s)
  case xthl => obtain rfl := eq_of_encode h rfl; exact storeSeen_xthl hwf

end Sys2Proof.Proofs

/-! Encoding (spec/30_encoding.md R80 to R91): decoding and encoding invert each other, byte 1 alone fixes the length, and the
ten undefined values are refused. -/

namespace Sys2Proof.Proofs

open Sys2Proof.Machine Sys2Proof.Spec

/-! ### Decoding and encoding -/

/-- Settles O1. -/
theorem decodeOfEncode : Obligations.DecodeOfEncode := by
  unfold Obligations.DecodeOfEncode
  exact decode_encode_append

/-- Settles O2. -/
theorem encodeOfDecode : Obligations.EncodeOfDecode := by
  unfold Obligations.EncodeOfDecode
  intro bytes rest i h
  exact encode_append_of_decode h

/-- Settles O4: each word is the encoding of its instruction, but for the CALL whose byte 3 is missing. -/
theorem decodedWords : Obligations.DecodedWords := by
  unfold Obligations.DecodedWords
  exact ⟨decode_encode .movAB, decode_encode .hlt, decode_encode (.lxiH 0x2050), decode_encode (.adi 0x42),
    decode_encode (.jmp 0x1234), decode_encode .pushPSW, decode_encode (.inPort 0x10), decode_encode .rar,
    decode_encode .rim, rfl⟩

/-! ### The length -/

/-- When no byte is left over, byte 1 and its operand bytes are as many as the format's length says; an undefined value is
one byte (log 10). -/
theorem length_of_assemble {op : Byte} {f : Format} {operands : List Byte} {i : Instr}
    (h : assemble op f operands = .ok (i, [])) : f.length.getD 1 = operands.length + 1 := by
  cases f with
  | f1 _ | undefined _ => cases h; rfl
  | f2 _ =>
    match operands with
    | [] => cases h
    | [_] => rfl
    | _ :: _ :: _ => cases h
  | f3 _ =>
    match operands with
    | [] | [_] => cases h
    | [_, _] => rfl
    | _ :: _ :: _ :: _ => cases h

/-- The opcode map has the length classes of R83: checked cell by cell. -/
theorem length_formatOf (op : Byte) :
    (formatOf op).length.getD 1 = (if op ∈ twoByteOpcodes then 1 else if op ∈ threeByteOpcodes then 2 else 0) + 1 := by
  revert op
  decide

/-- Settles O3: the bytes decode to the instruction with none left over, so the format of byte 1 gives their number, and
equal bytes decode to equal instructions. -/
theorem firstByteDeterminesLength : Obligations.FirstByteDeterminesLength := by
  unfold Obligations.FirstByteDeterminesLength
  intro i j b xs ys hi hj
  constructor
  · have decoded : decode (b :: xs) = .ok (i, []) := hi ▸ decode_encode i
    exact Nat.succ.inj ((length_of_assemble decoded).symm.trans (length_formatOf b))
  · rintro rfl
    exact eq_of_encode hi (hj ▸ decode_encode j)

/-! ### The undefined values -/

/-- Settles O30: each of the ten values is the encoding of one row of the opcode map, which refuses it. -/
theorem undefinedOpcodesRefused : Obligations.UndefinedOpcodesRefused := by
  unfold Obligations.UndefinedOpcodesRefused
  intro i b s hb h
  fin_cases hb <;> (obtain rfl := eq_of_encode h rfl; rfl)

end Sys2Proof.Proofs

/-! The frame of the registers, SP and PC (spec/10_state.md R23, R24; 40_data_transfer.md R133): each operation writes
only the general registers that its byte 1 names as its destination, and SP and PC only where its byte 1 is listed. -/

namespace Sys2Proof.Proofs

open Sys2Proof.Machine Sys2Proof.Spec

/-! ### The destinations, by the fields of byte 1 -/

/-- The destination of MOV r1,r2 and MOV r,M is the register of field 5:3. -/
theorem destinations_mov (q : Reg) : ∀ z : BitVec 3, destinations (op 1 q.code z).toNat = [q] := by
  cases q <;> decide

/-- The destination of INR, DCR and MVI (codes 100, 101 and 110 of field 2:0) is the register of field 5:3. -/
theorem destinations_reg (q : Reg) : ∀ z ∈ [(4 : BitVec 3), 5, 6], destinations (op 0 q.code z).toNat = [q] := by
  cases q <;> decide

/-- The destination of LXI, INX and DCX is the pair of field 5:4. -/
theorem destinations_pair (p : Pair) :
    ∀ z ∈ [(1 : BitVec 4), 3, 11], destinations (opPair 0 p.code z).toNat = regsOfPair p.code.toNat := by
  cases p <;> decide

/-- The destination of POP is the pair of field 5:4; for POP PSW the field is 11 and the destination is A. -/
theorem destinations_pop {p : Pair} (hp : p ≠ .sp) :
    destinations (opPair 3 p.code 1).toNat = regsOfPair p.code.toNat := by
  cases p with
  | sp => exact absurd rfl hp
  | b | d | h => rfl

/-- The destination of DAD is HL. -/
theorem destinations_dad (p : Pair) : destinations (opPair 0 p.code 9).toNat = regsOfPair Pair.h.code.toNat := by
  cases p <;> rfl

/-- The destination of the ALU operations on a register or M is A, but for a compare. -/
theorem destinations_alu : ∀ y z : BitVec 3, y ≠ 7 → destinations (op 2 y z).toNat = [.a] := by
  decide

/-! ### What each operation leaves of the general registers -/

/-- From `s` to `t` no general register but those listed changes. -/
def WritesOnly (dests : List Reg) (s t : State) : Prop :=
  ∀ q, q ∉ dests → t.regs.get q = s.regs.get q

theorem WritesOnly.of_regs_eq {dests : List Reg} {s t : State} (h : t.regs = s.regs) : WritesOnly dests s t :=
  fun _ _ => by rw [h]

/-- One register is written, in a state whose registers are those of `s`: a read or a draw may come before the write. -/
theorem WritesOnly.of_set {q : Reg} {v : Byte} {s t u : State} (hu : u.regs = s.regs) (h : t.regs = u.regs.set q v) :
    WritesOnly [q] s t :=
  fun _ hq => by rw [h, hu, Regs.get_set_other _ _ (List.ne_of_not_mem_cons hq)]

theorem WritesOnly.of_set_set {q q' : Reg} {v v' : Byte} {s t : State} (h : t.regs = (s.regs.set q v).set q' v') :
    WritesOnly [q, q'] s t := by
  intro r hr
  obtain ⟨hq, hq'⟩ : r ≠ q ∧ r ≠ q' := by simpa using hr
  rw [h, Regs.get_set_other _ _ hq', Regs.get_set_other _ _ hq]

theorem WritesOnly.trans {dests : List Reg} {s t u : State} (h : WritesOnly dests s t) (h' : WritesOnly dests t u) :
    WritesOnly dests s u :=
  fun q hq => (h' q hq).trans (h q hq)

theorem WritesOnly.mono {dests dests' : List Reg} {s t : State} (h : WritesOnly dests s t) (hsub : dests ⊆ dests') :
    WritesOnly dests' s t :=
  fun q hq => h q fun hmem => hq (hsub hmem)

/-- Writing a pair writes its two registers, and no general register when the pair is SP. -/
theorem setPair_writesOnly (p : Pair) (v : Word) (s : State) :
    WritesOnly (regsOfPair p.code.toNat) s (s.setPair p v) := by
  cases p with
  | sp => exact .of_regs_eq rfl
  | b | d | h => exact .of_set_set (v := highByte v) (v' := lowByte v) rfl

/-- An operation writes no general register but the destinations of its byte 1. -/
theorem runs_writesOnly {s t : State} {r : Result} {b : Byte} (h : Runs s r b) (hr : r = .next t) :
    WritesOnly (destinations b.toNat) s t := by
  cases h with
  | mov dst => cases hr; rw [destinations_mov]; exact .of_set rfl rfl
  | movFromM dst => cases hr; rw [destinations_mov]; exact .of_set (by simp) rfl
  | mvi dst | inr dst | dcr dst => cases hr; rw [destinations_reg _ _ (by decide)]; exact .of_set rfl rfl
  | lxi p | inx p | dcx p => cases hr; rw [destinations_pair _ _ (by decide)]; exact setPair_writesOnly p _ s
  | dad p => cases hr; rw [destinations_dad]; exact (setPair_writesOnly .h _ s).trans (.of_regs_eq rfl)
  | pop p hp =>
    cases hr
    rw [destinations_pop hp]
    exact (WritesOnly.of_regs_eq (by simp)).trans (setPair_writesOnly p _ _)
  | lhld | xthl =>
    cases hr
    exact (WritesOnly.of_regs_eq (by simp)).trans (setPair_writesOnly .h _ _)
  | xchg =>
    have hl : regsOfPair Pair.h.code.toNat ⊆ destinations 0xEB := by decide
    have de : regsOfPair Pair.d.code.toNat ⊆ destinations 0xEB := by decide
    cases hr
    exact ((setPair_writesOnly .h _ s).mono hl).trans ((setPair_writesOnly .d _ _).mono de)
  | add | adc | sub | sbb | ana | xra | ora =>
    cases hr; rw [destinations_alu _ _ (by decide)]; exact .of_set (by simp) rfl
  | adi | aci | sui | sbi | ani | xri | ori | daa | cma | rlc | rrc | ral | rar => cases hr; exact .of_set rfl rfl
  | ldaxB | ldaxD | lda | popPsw | inp => cases hr; exact .of_set (by simp) rfl
  | rim => cases hr; exact .of_set (by split <;> simp) rfl
  | jcc | ccc | rcc =>
    cases hr
    exact .of_regs_eq (by split <;> simp)
  | undefined => cases hr
  | _ => cases hr; exact .of_regs_eq (by simp)

/-! ### SP -/

/-- A pair other than SP does not hold SP. -/
theorem setPair_sp_of_ne {p : Pair} (hp : p ≠ .sp) (v : Word) (s : State) : (s.setPair p v).sp = s.sp := by
  cases p with
  | sp => exact absurd rfl hp
  | b | d | h => rfl

/-- Byte 1 of LXI SP, INX SP and DCX SP may write SP. -/
theorem mayWriteSp_pair : ∀ z ∈ [(1 : BitVec 4), 3, 11], mayWriteSp (opPair 0 Pair.sp.code z).toNat := by
  unfold mayWriteSp
  decide

/-- Byte 1 of Rcc, Ccc and RST (codes 000, 100 and 111 of field 2:0) may write SP. -/
theorem mayWriteSp_branch : ∀ y : BitVec 3, ∀ z ∈ [(0 : BitVec 3), 4, 7], mayWriteSp (op 3 y z).toNat := by
  unfold mayWriteSp
  decide

/-- Byte 1 of POP and PUSH (codes 0001 and 0101 of field 3:0) may write SP. -/
theorem mayWriteSp_stack : ∀ p : BitVec 2, ∀ z ∈ [(1 : BitVec 4), 5], mayWriteSp (opPair 3 p z).toNat := by
  unfold mayWriteSp
  decide

/-- Writing the pair of LXI, INX or DCX keeps SP, or the pair is SP. -/
theorem setPair_sp_or (p : Pair) (v : Word) (s : State) {z : BitVec 4} (hz : z ∈ [(1 : BitVec 4), 3, 11]) :
    (s.setPair p v).sp = s.sp ∨ mayWriteSp (opPair 0 p.code z).toNat := by
  by_cases hp : p = .sp
  · rw [hp]; exact .inr (mayWriteSp_pair z hz)
  · exact .inl (setPair_sp_of_ne hp v s)

/-- An operation keeps SP, or its byte 1 is one that R24 lists. -/
theorem runs_sp {s t : State} {r : Result} {b : Byte} (h : Runs s r b) (hr : r = .next t) :
    t.sp = s.sp ∨ mayWriteSp b.toNat := by
  cases h with
  | lxi p | inx p | dcx p => cases hr; exact setPair_sp_or p _ s (by decide)
  | ccc | rcc | rst => exact .inr (mayWriteSp_branch _ _ (by decide))
  | push | pop => exact .inr (mayWriteSp_stack _ _ (by decide))
  | pushPsw => exact .inr (mayWriteSp_stack 3 5 (by decide))
  | popPsw => exact .inr (mayWriteSp_stack 3 1 (by decide))
  | call | ret | sphl => right; unfold mayWriteSp; decide
  | jcc | rim =>
    cases hr; left
    split <;> simp
  | undefined => cases hr
  | _ =>
    cases hr; left
    simp [setPair_sp_of_ne, State.addToA, State.subFromA, State.logicA]

/-! ### PC -/

/-- Byte 1 of Rcc, Jcc, Ccc and RST (codes 000, 010, 100 and 111 of field 2:0) may transfer control. -/
theorem mayTransfer_branch : ∀ y : BitVec 3, ∀ z ∈ [(0 : BitVec 3), 2, 4, 7], mayTransfer (op 3 y z).toNat := by
  unfold mayTransfer
  decide

/-- An operation keeps PC, or it is one of the control transfers of 42_branch_control.md. -/
theorem runs_pc {s t : State} {r : Result} {b : Byte} (h : Runs s r b) (hr : r = .next t) :
    t.pc = s.pc ∨ mayTransfer b.toNat := by
  cases h with
  | jcc | ccc | rcc | rst => exact .inr (mayTransfer_branch _ _ (by decide))
  | jmp | call | ret | pchl => right; unfold mayTransfer; decide
  | rim =>
    cases hr; left
    split <;> simp
  | undefined => cases hr
  | _ =>
    cases hr; left
    simp [State.addToA, State.subFromA, State.logicA]

/-- Settles O52: what the operation of byte 1 keeps, register by register. -/
theorem registerFrame : Obligations.RegisterFrame := by
  unfold Obligations.RegisterFrame
  intro i s t h
  rw [opcode_eq_byte1_toNat]
  have runs := runs_exec i s
  exact ⟨runs_writesOnly runs h, (runs_sp runs h).resolve_right, (runs_pc runs h).resolve_right⟩

end Sys2Proof.Proofs

/-! Data transfer (spec/40_data_transfer.md R120 to R132): what the bytes of each instruction run, and its whole next
state. -/

namespace Sys2Proof.Proofs

open Sys2Proof.Machine Sys2Proof.Spec

/-! ### What the bytes run -/

/-- `01 ddd sss` is MOV r1,r2: 49 cells of the opcode map. -/
theorem exec_of_encode_mov {i : Instr} {dst src : Reg} (h : encode i = [op 1 dst.code src.code]) (s : State) :
    exec i s = moveReg dst src s := by
  cases dst <;> cases src <;> (obtain rfl := eq_of_encode h rfl; rfl)

/-- `01 ddd 110` is MOV r,M. -/
theorem exec_of_encode_movFromM {i : Instr} {dst : Reg} (h : encode i = [op 1 dst.code 6]) (s : State) :
    exec i s = moveFromMem dst s := by
  cases dst <;> (obtain rfl := eq_of_encode h rfl; rfl)

/-- `00 ddd 110` is MVI r. -/
theorem exec_of_encode_mvi {i : Instr} {dst : Reg} {v : Byte} (h : encode i = [op 0 dst.code 6, v]) (s : State) :
    exec i s = moveImm dst v s := by
  cases dst <;> (obtain rfl := eq_of_encode h rfl; rfl)

/-- `00 pp 0001` is LXI, byte 2 the low half of its operand. -/
theorem exec_of_encode_lxi {i : Instr} {p : Pair} {lo hi : Byte} (h : encode i = [opPair 0 p.code 1, lo, hi])
    (s : State) : exec i s = loadPairImm p (joinBytes hi lo) s := by
  cases p <;> (obtain rfl := eq_of_encode h rfl; rfl)

/-! ### The whole next state -/

/-- A register written after a memory read: the read itself leaves the register file alone. -/
theorem setReg_memRead (q : Reg) (v : Byte) (a : Word) (s : State) :
    (s.memRead a).2.setReg q v = { (s.memRead a).2 with regs := s.regs.set q v } := by
  simp only [State.setReg, memRead_regs]

/-- LDAX and LDA load A from the address, with the state after the read. -/
theorem loadA_eq (a : Word) (s : State) : loadA a s = .next (loadedA s a) :=
  congrArg Host.Outcome.next (setReg_memRead .a _ a s)

/-- LHLD reads L at the address and then H at the next. -/
theorem loadHL_eq (a : Word) (s : State) :
    loadHL a s = .next { ((s.memRead a).2.memRead (a + 1)).2 with
      regs := { s.regs with l := (s.memRead a).1, h := ((s.memRead a).2.memRead (a + 1)).1 } } := by
  simp only [loadHL, State.memRead16, State.setPair, memRead_regs, highByte_joinBytes, lowByte_joinBytes]

/-- SHLD writes L at the address and then H at the next. -/
theorem storeHL_eq (a : Word) (s : State) :
    storeHL a s = .next ((s.memWrite a s.regs.l).memWrite (a + 1) s.regs.h) := by
  simp only [storeHL, State.memWrite16, State.hl, Regs.hl, highByte_joinBytes, lowByte_joinBytes]

/-- XCHG exchanges D with H and E with L. -/
theorem exchangeDEHL_eq (s : State) :
    exchangeDEHL s =
      .next { s with regs := { s.regs with d := s.regs.h, e := s.regs.l, h := s.regs.d, l := s.regs.e } } := by
  simp only [exchangeDEHL, State.setPair, State.hl, Regs.hl, Regs.de, highByte_joinBytes, lowByte_joinBytes]

/-- LXI of a register pair: the high byte goes to the left register, the low byte to the right one. -/
theorem loadPairImm_bytes (hi lo : Byte) (s : State) :
    loadPairImm .b (joinBytes hi lo) s = .next { s with regs := { s.regs with b := hi, c := lo } } ∧
    loadPairImm .d (joinBytes hi lo) s = .next { s with regs := { s.regs with d := hi, e := lo } } ∧
    loadPairImm .h (joinBytes hi lo) s = .next { s with regs := { s.regs with h := hi, l := lo } } := by
  simp only [loadPairImm, State.setPair, highByte_joinBytes, lowByte_joinBytes, and_self]

/-! ### The statements -/

/-- Settles O5: the bytes run `moveReg`, which is the copy of the statement. -/
theorem movRegister : Obligations.MovRegister := by
  unfold Obligations.MovRegister
  intro i dst src s h
  exact exec_of_encode_mov h s

/-- Settles O6: the address is HL before the write. -/
theorem movMemory : Obligations.MovMemory := by
  unfold Obligations.MovMemory
  intro i r s hl
  refine ⟨fun fromM => ?_, fun toM => exec_of_encode_movToM toM s⟩
  rw [exec_of_encode_movFromM fromM]
  exact congrArg Host.Outcome.next (setReg_memRead r _ hl s)

/-- Settles O7: MVI r by its register; the bytes of MVI M are one instruction. -/
theorem moveImmediate : Obligations.MoveImmediate := by
  unfold Obligations.MoveImmediate
  intro i byte s
  refine ⟨fun r toReg => exec_of_encode_mvi toReg s, fun toM => ?_⟩
  obtain rfl := eq_of_encode toM rfl
  rfl

/-- Settles O8: the bytes are the halves of the operand; SP holds the operand whole. -/
theorem loadPairImmediate : Obligations.LoadPairImmediate := by
  unfold Obligations.LoadPairImmediate
  intro i lo hi s
  obtain ⟨bc, de, hl⟩ := loadPairImm_bytes hi lo s
  exact ⟨fun h => (exec_of_encode_lxi (p := .b) h s).trans bc, fun h => (exec_of_encode_lxi (p := .d) h s).trans de,
    fun h => (exec_of_encode_lxi (p := .h) h s).trans hl, fun h => exec_of_encode_lxi (p := .sp) h s⟩

/-- Settles O9: each clause names one instruction, which is a load of A. -/
theorem loadAccumulator : Obligations.LoadAccumulator := by
  unfold Obligations.LoadAccumulator
  intro i lo hi s
  refine ⟨fun h => ?ldaxB, fun h => ?ldaxD, fun h => ?lda⟩
  all_goals
    obtain rfl := eq_of_encode h rfl
    exact loadA_eq _ s

/-- Settles O10: each clause names one instruction, which is a store of A. -/
theorem storeAccumulator : Obligations.StoreAccumulator := by
  unfold Obligations.StoreAccumulator
  intro i lo hi s
  refine ⟨fun h => ?staxB, fun h => ?staxD, fun h => ?sta⟩
  all_goals
    obtain rfl := eq_of_encode h rfl
    rfl

/-- Settles O11: each clause names one instruction. -/
theorem hlTransfer : Obligations.HlTransfer := by
  unfold Obligations.HlTransfer
  intro i lo hi s a
  refine ⟨fun h => ?lhld, fun h => ?shld, fun h => ?xchg⟩
  case lhld => obtain rfl := eq_of_encode h rfl; exact loadHL_eq a s
  case shld => obtain rfl := eq_of_encode h rfl; exact storeHL_eq a s
  case xchg => obtain rfl := eq_of_encode h rfl; exact exchangeDEHL_eq s

end Sys2Proof.Proofs

/-! The 8-bit arithmetic (spec/41_arithmetic_logical.md R141 to R143, R155): the model's flags, sums, differences and decimal
adjustment are those of the statements. -/

namespace Sys2Proof.Proofs

open Sys2Proof.Machine Sys2Proof.Spec

/-! ### The flags of a result -/

/-- Counting the 1 bits over the bit numbers is adding the bits up. -/
theorem parityEven_eq_evenOnes (v : Byte) : parityEven v = evenOnes v := by
  have ones : (List.range 8).countP (fun k => v.getLsbD k) = (v.getLsbD 0).toNat + (v.getLsbD 1).toNat +
      (v.getLsbD 2).toNat + (v.getLsbD 3).toNat + (v.getLsbD 4).toNat + (v.getLsbD 5).toNat + (v.getLsbD 6).toNat +
      (v.getLsbD 7).toNat := by
    simp only [List.range_succ, List.range_zero, List.countP_append, List.countP_nil, List.countP_singleton, Bool.toNat,
      Bool.cond_eq_ite, Nat.zero_add]
  rw [parityEven, evenOnes, ones]

/-- S is bit 7: the result is 128 or more (R141). -/
theorem ofResult_eq_flagsOf (res : Byte) (ac cy : Bool) : Flags.ofResult res ac cy = flagsOf res ac cy := by
  have sign : res.getLsbD 7 = decide (128 ≤ res.toNat) := BitVec.msb_eq_decide res
  rw [Flags.ofResult, flagsOf, sign, parityEven_eq_evenOnes, beq_eq_decide]

/-! ### Addition and subtraction -/

theorem add8_eq_add (a b : Byte) (cin : Bool) : add8 a b cin = Spec.add a b cin := by
  simp only [add8, Spec.add, ofResult_eq_flagsOf, ge_iff_le]

theorem toNat_complement (b : Byte) : (255 - b).toNat = 255 - b.toNat := by bv_omega

theorem toNat_not_eq_one_sub (b : Bool) : (!b).toNat = 1 - b.toNat := by cases b <;> rfl

/-- The hardware's sum (R143): the minuend, the complement of the subtrahend and the complement of the borrow. -/
theorem sub8_fst_eq_complement_add (a b : Byte) (bin : Bool) : (sub8 a b bin).1 = (add8 a (255 - b) (!bin)).1 := by
  have := bin.toNat_le
  apply BitVec.eq_of_toNat_eq
  simp only [sub8, add8, BitVec.toNat_ofInt, BitVec.toNat_ofNat, toNat_complement, toNat_not_eq_one_sub]
  omega

/-- The complement addition's carry out of bit 7 is the complement of the borrow (R143). -/
theorem sub8_cy_eq_complement_add (a b : Byte) (bin : Bool) :
    (sub8 a b bin).2.cy = !(add8 a (255 - b) (!bin)).2.cy := by
  have := bin.toNat_le
  simp only [sub8, add8, Flags.ofResult, toNat_complement, toNat_not_eq_one_sub, ← decide_not, decide_eq_decide]
  omega

/-- The complement addition's carry out of bit 3 is 1 exactly when nothing is borrowed from bit 4 (R143). -/
theorem sub8_ac_eq_complement_add (a b : Byte) (bin : Bool) :
    (sub8 a b bin).2.ac = (add8 a (255 - b) (!bin)).2.ac := by
  have := bin.toNat_le
  simp only [sub8, add8, Flags.ofResult, toNat_complement, toNat_not_eq_one_sub, decide_eq_decide]
  omega

/-- The difference of R143 is the complement addition's sum, with a borrow and without. -/
theorem sub8_fst_eq_sub (a b : Byte) (bin : Bool) : (sub8 a b bin).1 = a - b - (if bin then 1 else 0) := by
  rw [sub8_fst_eq_complement_add, add8]
  cases bin with
  | false => rw [if_neg Bool.false_ne_true, Bool.not_false, Bool.toNat_true]; bv_omega
  | true => rw [if_pos rfl, Bool.not_true, Bool.toNat_false]; bv_omega

theorem sub8_eq_sub (a b : Byte) (bin : Bool) : sub8 a b bin = Spec.sub a b bin := by
  have res := sub8_fst_eq_sub a b bin
  have borrow : ((a.toNat : Int) - b.toNat - bin.toNat < 0) ↔ a.toNat < b.toNat + bin.toNat := by omega
  simp only [sub8] at res
  simp only [sub8, Spec.sub, res, borrow, ofResult_eq_flagsOf, ge_iff_le]

/-- Settles O54: the three parts of the complement addition, and the subtraction of R143. -/
theorem subtractIsComplementAdd : Obligations.SubtractIsComplementAdd := by
  unfold Obligations.SubtractIsComplementAdd
  intro a b bin
  exact ⟨sub8_eq_sub a b bin, sub8_fst_eq_complement_add a b bin, sub8_cy_eq_complement_add a b bin,
    sub8_ac_eq_complement_add a b bin⟩

/-! ### Decimal adjustment -/

/-- DAA adds 06h: the low digit is past 9, or AC is set (R155). -/
abbrev AdjustsLow (a : Byte) (f : Flags) : Prop := 9 < a.toNat % 16 ∨ f.ac = true

/-- DAA adds 60h: the high digit is past 9, or CY is set, or the adjustment of the low digit carries into a 9 (R155). -/
abbrev AdjustsHigh (a : Byte) (f : Flags) : Prop :=
  9 < a.toNat / 16 ∨ f.cy = true ∨ (9 ≤ a.toNat / 16 ∧ 9 < a.toNat % 16)

/-- The byte that DAA adds is 06h, 60h, both or neither. -/
theorem adjustment_eq_sum (p q : Prop) [Decidable p] [Decidable q] :
    (if p then (if q then 0x66 else 0x06) else (if q then 0x60 else 0x00) : Byte) =
      (if p then 0x06 else 0x00) + (if q then 0x60 else 0x00) := by
  by_cases hp : p <;> by_cases hq : q <;> simp only [hp, hq, if_true, if_false] <;> rfl

/-- The model's Boolean tests are the conditions of R155. -/
theorem daa8_eq_daa (a : Byte) (f : Flags) : daa8 a f = Spec.daa a f := by
  have low : (decide (9 < a.toNat % 16) || f.ac) = decide (AdjustsLow a f) := by
    simp only [AdjustsLow, Bool.decide_or, Bool.decide_eq_true]
  have high : (decide (9 < a.toNat / 16) || f.cy || (decide (9 ≤ a.toNat / 16) && decide (9 < a.toNat % 16))) =
      decide (AdjustsHigh a f) := by
    simp only [AdjustsHigh, Bool.decide_or, Bool.decide_and, Bool.decide_eq_true, Bool.or_assoc]
  have carry : (f.cy || decide (AdjustsHigh a f)) = decide (f.cy = true ∨ AdjustsHigh a f) := by
    simp only [Bool.decide_or, Bool.decide_eq_true]
  simp only [daa8, Spec.daa, low, high, carry, decide_eq_true_eq, adjustment_eq_sum, add8_eq_add]

theorem toNat_daa_fst (a : Byte) (f : Flags) :
    (Spec.daa a f).1.toNat =
      (a.toNat + (if AdjustsLow a f then 6 else 0) + (if AdjustsHigh a f then 96 else 0)) % 256 := by
  simp only [Spec.daa, Spec.add, adjustment_eq_sum, BitVec.toNat_ofNat, Bool.toNat_false, Nat.add_zero]
  split <;> split <;> rfl

/-- CY set asks for the adjustment of the high digit, so CY after DAA is that adjustment. -/
theorem daa_cy_iff (a : Byte) (f : Flags) : (Spec.daa a f).2.cy = true ↔ AdjustsHigh a f := by
  simp only [Spec.daa, decide_eq_true_eq]
  exact ⟨fun h => h.elim (fun cy => .inr (.inl cy)) id, .inr⟩

/-- After the addition of two decimal digits and a carry, the low digit is adjusted when their sum is past 9. -/
theorem adjustsLow_add {x y : Byte} {cin : Bool} (hx : isBcd x) (hy : isBcd y) :
    AdjustsLow (Spec.add x y cin).1 (Spec.add x y cin).2 ↔ 10 ≤ x.toNat % 16 + y.toNat % 16 + cin.toNat := by
  have := cin.toNat_le
  obtain ⟨hxlo, hxhi⟩ := hx
  obtain ⟨hylo, hyhi⟩ := hy
  simp only [AdjustsLow, Spec.add, flagsOf, BitVec.toNat_ofNat, decide_eq_true_eq]
  omega

/-- After the addition of two packed-decimal bytes and a carry, the high digit is adjusted when the decimal sum is past 99. -/
theorem adjustsHigh_add {x y : Byte} {cin : Bool} (hx : isBcd x) (hy : isBcd y) :
    AdjustsHigh (Spec.add x y cin).1 (Spec.add x y cin).2 ↔ 100 ≤ bcdValue x + bcdValue y + cin.toNat := by
  have := cin.toNat_le
  obtain ⟨hxlo, hxhi⟩ := hx
  obtain ⟨hylo, hyhi⟩ := hy
  simp only [AdjustsHigh, Spec.add, flagsOf, BitVec.toNat_ofNat, decide_eq_true_eq, bcdValue]
  omega

/-- A byte made of two decimal digits, the high one `hi` and the low one `lo`. -/
theorem bcd_of_digits {v : Byte} {hi lo : Nat} (h : v.toNat = 16 * hi + lo) (hhi : hi ≤ 9) (hlo : lo ≤ 9) :
    isBcd v ∧ bcdValue v = 10 * hi + lo := by
  simp only [isBcd, bcdValue, h]
  omega

/-- The adjusted sum of two packed-decimal bytes: the low digit is the last digit of the sum of the low digits, which carries
one into the high digit when it is past 9. -/
theorem toNat_daa_add {x y : Byte} {cin : Bool} (hx : isBcd x) (hy : isBcd y) :
    let lo := x.toNat % 16 + y.toNat % 16 + cin.toNat
    let hi := x.toNat / 16 + y.toNat / 16 + lo / 10
    (Spec.daa (Spec.add x y cin).1 (Spec.add x y cin).2).1.toNat = 16 * (hi % 10) + lo % 10 := by
  intro lo hi
  have binary : (Spec.add x y cin).1.toNat = (16 * (x.toNat / 16 + y.toNat / 16) + lo) % 256 := by
    rw [Spec.add, BitVec.toNat_ofNat]
    omega
  have decimal : bcdValue x + bcdValue y + cin.toNat = 10 * (x.toNat / 16 + y.toNat / 16) + lo := by
    simp only [bcdValue]
    omega
  have low : _ ↔ 10 ≤ lo := adjustsLow_add hx hy
  have high := adjustsHigh_add (cin := cin) hx hy
  have := cin.toNat_le
  obtain ⟨hxlo, hxhi⟩ := hx
  obtain ⟨hylo, hyhi⟩ := hy
  have six : (if 10 ≤ lo then 6 else 0) = 6 * (lo / 10) := by split <;> omega
  have sixty : (if 100 ≤ 10 * (x.toNat / 16 + y.toNat / 16) + lo then 96 else 0) = 96 * (hi / 10) := by
    split <;> omega
  have digits : 16 * (x.toNat / 16 + y.toNat / 16) + lo + 6 * (lo / 10) + 96 * (hi / 10) =
      256 * (hi / 10) + (16 * (hi % 10) + lo % 10) := by omega
  rw [toNat_daa_fst, if_congr low rfl rfl, if_congr high rfl rfl, decimal, binary, six, sixty]
  omega

/-- Digit by digit, the adjusted sum is the decimal sum modulo 100. -/
theorem daa_add_bcd {x y : Byte} {cin : Bool} (hx : isBcd x) (hy : isBcd y) :
    let res := (Spec.daa (Spec.add x y cin).1 (Spec.add x y cin).2).1
    isBcd res ∧ bcdValue res = (bcdValue x + bcdValue y + cin.toNat) % 100 := by
  intro res
  obtain ⟨bcd, value⟩ := bcd_of_digits (toNat_daa_add (cin := cin) hx hy) (by omega) (by omega)
  refine ⟨bcd, value.trans ?_⟩
  simp only [bcdValue]
  omega

end Sys2Proof.Proofs

/-! The arithmetic and logical group (spec/41_arithmetic_logical.md R140 to R174): what the bytes of each instruction run, and
its whole next state. -/

namespace Sys2Proof.Proofs

open Sys2Proof.Machine Sys2Proof.Spec

/-! ### What the bytes run -/

/-- The eight operations of A and an 8-bit operand, by the field 5:3 of byte 1 (R144 to R147, R163 to R166). -/
def aluOpnd (y : BitVec 3) (o : Opnd) (s : State) : Result :=
  match y.toNat with
  | 0 => addOpnd o false s
  | 1 => addOpnd o s.flags.cy s
  | 2 => subOpnd o false s
  | 3 => subOpnd o s.flags.cy s
  | 4 => logicOpnd and8 o s
  | 5 => logicOpnd xor8 o s
  | 6 => logicOpnd or8 o s
  | _ => compareOpnd o s

/-- `10 yyy sss` is the operation yyy on A and the operand sss: 64 cells of the opcode map. -/
theorem exec_of_encode_alu {i : Instr} {y : BitVec 3} {o : Opnd} (h : encode i = [op 2 y o.code]) (s : State) :
    exec i s = aluOpnd y o s := by
  obtain ⟨code, hcode, rfl⟩ := exists_lt_eq_ofNat y
  cases o with
  | m => interval_cases code <;> (obtain rfl := eq_of_encode h rfl; rfl)
  | reg r => cases r <;> interval_cases code <;> (obtain rfl := eq_of_encode h rfl; rfl)

/-- `00 ddd 100` is INR r. -/
theorem exec_of_encode_inr {i : Instr} {r : Reg} (h : encode i = [op 0 r.code 4]) (s : State) :
    exec i s = incReg r s := by
  cases r <;> (obtain rfl := eq_of_encode h rfl; rfl)

/-- `00 ddd 101` is DCR r. -/
theorem exec_of_encode_dcr {i : Instr} {r : Reg} (h : encode i = [op 0 r.code 5]) (s : State) :
    exec i s = decReg r s := by
  cases r <;> (obtain rfl := eq_of_encode h rfl; rfl)

/-- `00 pp 0011` is INX. -/
theorem exec_of_encode_inx {i : Instr} {p : Pair} (h : encode i = [opPair 0 p.code 3]) (s : State) :
    exec i s = incPair p s := by
  cases p <;> (obtain rfl := eq_of_encode h rfl; rfl)

/-- `00 pp 1011` is DCX. -/
theorem exec_of_encode_dcx {i : Instr} {p : Pair} (h : encode i = [opPair 0 p.code 11]) (s : State) :
    exec i s = decPair p s := by
  cases p <;> (obtain rfl := eq_of_encode h rfl; rfl)

/-- `00 pp 1001` is DAD. -/
theorem exec_of_encode_dad {i : Instr} {p : Pair} (h : encode i = [opPair 0 p.code 9]) (s : State) :
    exec i s = addPair p s := by
  cases p <;> (obtain rfl := eq_of_encode h rfl; rfl)

/-! ### The whole next state -/

theorem operand_eq_opnd8 (s : State) (o : Opnd) : operand s o = s.opnd8 o := by cases o <;> rfl

theorem withPair_eq_setPair (s : State) (p : Pair) (v : Word) : withPair s p v = s.setPair p v := by cases p <;> rfl

theorem setResult_eq_withResult (s : State) (r : Byte × Flags) : s.setResult r = withResult s r := rfl

/-- An operand read leaves A alone, so the sum is that of the old A (R142). -/
theorem addOpnd_eq (o : Opnd) (cin : Bool) (s : State) :
    addOpnd o cin s = .next (withResult (operand s o).2 (Spec.add s.regs.a (operand s o).1 cin)) := by
  rw [addOpnd, State.addToA, setResult_eq_withResult, opnd8_regs, operand_eq_opnd8, add8_eq_add]

theorem subOpnd_eq (o : Opnd) (bin : Bool) (s : State) :
    subOpnd o bin s = .next (withResult (operand s o).2 (Spec.sub s.regs.a (operand s o).1 bin)) := by
  rw [subOpnd, State.subFromA, setResult_eq_withResult, opnd8_regs, operand_eq_opnd8, sub8_eq_sub]

theorem logicOpnd_eq (f : Byte → Byte → Byte × Flags) (o : Opnd) (s : State) :
    logicOpnd f o s = .next (withResult (operand s o).2 (f s.regs.a (operand s o).1)) := by
  rw [logicOpnd, State.logicA, setResult_eq_withResult, opnd8_regs, operand_eq_opnd8]

theorem compareOpnd_eq (o : Opnd) (s : State) :
    compareOpnd o s = .next { (operand s o).2 with flags := (Spec.sub s.regs.a (operand s o).1 false).2 } := by
  simp only [compareOpnd, State.compareA, opnd8_regs, operand_eq_opnd8, sub8_eq_sub]

theorem and8_eq (a b : Byte) : and8 a b = (a &&& b, flagsOf (a &&& b) true false) := by rw [and8, ofResult_eq_flagsOf]

theorem xor8_eq (a b : Byte) : xor8 a b = (a ^^^ b, flagsOf (a ^^^ b) false false) := by rw [xor8, ofResult_eq_flagsOf]

theorem or8_eq (a b : Byte) : or8 a b = (a ||| b, flagsOf (a ||| b) false false) := by rw [or8, ofResult_eq_flagsOf]

theorem inc8_eq (v : Byte) (f : Flags) : inc8 v f = (v + 1, flagsOf (v + 1) (decide (v.toNat % 16 = 15)) f.cy) := by
  rw [inc8, ofResult_eq_flagsOf]

theorem dec8_eq (v : Byte) (f : Flags) : dec8 v f = (v - 1, flagsOf (v - 1) (decide (v.toNat % 16 ≠ 0)) f.cy) := by
  rw [dec8, ofResult_eq_flagsOf]

/-- The 16-bit sum, worked out on natural numbers by the model, is the sum of the words (R148). -/
theorem addPair_eq (p : Pair) (s : State) :
    addPair p s = .next ((s.setPair .h (s.hl + s.pair p)).setCarry (decide (s.hl.toNat + (s.pair p).toNat ≥ 65536))) := by
  rw [addPair, BitVec.add_def]

/-! ### The rotates -/

/-- RLC, bit by bit: bits 6:0 beside bit 7 (R159). -/
theorem rotLeft_eq (a : Byte) : rotLeft a = (a.rotateLeft 1, a.getLsbD 7) := by
  refine Prod.ext (BitVec.eq_of_getLsbD_eq fun k hk => ?_) rfl
  simp only [rotLeft, BitVec.getLsbD_append, BitVec.getLsbD_extractLsb', BitVec.getLsbD_rotateLeft]
  interval_cases k <;> simp

/-- RRC, bit by bit: bit 0 beside bits 7:1 (R160). -/
theorem rotRight_eq (a : Byte) : rotRight a = (a.rotateRight 1, a.getLsbD 0) := by
  refine Prod.ext (BitVec.eq_of_getLsbD_eq fun k hk => ?_) rfl
  simp only [rotRight, BitVec.getLsbD_append, BitVec.getLsbD_extractLsb', BitVec.getLsbD_rotateRight]
  interval_cases k <;> simp

/-- RAL, bit by bit: CY enters at bit 0 (R161). -/
theorem rotLeftCarry_eq (a : Byte) (cy : Bool) :
    rotLeftCarry a cy = (a <<< 1 ||| (if cy then 0x01 else 0x00), a.getLsbD 7) := by
  refine Prod.ext (BitVec.eq_of_getLsbD_eq fun k hk => ?_) rfl
  simp only [rotLeftCarry, BitVec.getLsbD_append, BitVec.getLsbD_extractLsb', BitVec.getLsbD_or, BitVec.getLsbD_shiftLeft]
  cases cy <;> interval_cases k <;> simp

/-- RAR, bit by bit: CY enters at bit 7 (R162). -/
theorem rotRightCarry_eq (a : Byte) (cy : Bool) :
    rotRightCarry a cy = (a >>> 1 ||| (if cy then 0x80 else 0x00), a.getLsbD 0) := by
  refine Prod.ext (BitVec.eq_of_getLsbD_eq fun k hk => ?_) rfl
  simp only [rotRightCarry, BitVec.getLsbD_append, BitVec.getLsbD_extractLsb', BitVec.getLsbD_or,
    BitVec.getLsbD_ushiftRight]
  cases cy <;> interval_cases k <;> simp

/-! ### The statements -/

/-- Settles O12: the operands by `addOpnd_eq`; ADI and ACI are one instruction each. -/
theorem addGroup : Obligations.AddGroup := by
  unfold Obligations.AddGroup
  intro i s
  refine ⟨fun o => ⟨fun add => ?_, fun adc => ?_⟩, fun byte => ⟨fun adi => ?_, fun aci => ?_⟩⟩
  · exact (exec_of_encode_alu add s).trans (addOpnd_eq o false s)
  · exact (exec_of_encode_alu adc s).trans (addOpnd_eq o s.flags.cy s)
  · obtain rfl := eq_of_encode adi rfl
    rw [← add8_eq_add]; rfl
  · obtain rfl := eq_of_encode aci rfl
    rw [← add8_eq_add]; rfl

/-- Settles O13: the operands by `subOpnd_eq` and `compareOpnd_eq`; SUI, SBI and CPI are one instruction each. -/
theorem subtractGroup : Obligations.SubtractGroup := by
  unfold Obligations.SubtractGroup
  intro i s
  refine ⟨fun o => ⟨fun sub => ?_, fun sbb => ?_, fun cmp => ?_⟩,
    fun byte => ⟨fun sui => ?_, fun sbi => ?_, fun cpi => ?_⟩⟩
  · exact (exec_of_encode_alu sub s).trans (subOpnd_eq o false s)
  · exact (exec_of_encode_alu sbb s).trans (subOpnd_eq o s.flags.cy s)
  · exact (exec_of_encode_alu cmp s).trans (compareOpnd_eq o s)
  · obtain rfl := eq_of_encode sui rfl
    rw [← sub8_eq_sub]; rfl
  · obtain rfl := eq_of_encode sbi rfl
    rw [← sub8_eq_sub]; rfl
  · obtain rfl := eq_of_encode cpi rfl
    rw [← sub8_eq_sub]; rfl

/-- Settles O14: the operands by `logicOpnd_eq`; ANI, XRI and ORI are one instruction each. -/
theorem logicGroup : Obligations.LogicGroup := by
  unfold Obligations.LogicGroup
  intro i s
  simp only [← and8_eq, ← xor8_eq, ← or8_eq]
  refine ⟨fun o => ⟨fun ana => ?_, fun xra => ?_, fun ora => ?_⟩,
    fun byte => ⟨fun ani => ?_, fun xri => ?_, fun ori => ?_⟩⟩
  · exact (exec_of_encode_alu ana s).trans (logicOpnd_eq and8 o s)
  · exact (exec_of_encode_alu xra s).trans (logicOpnd_eq xor8 o s)
  · exact (exec_of_encode_alu ora s).trans (logicOpnd_eq or8 o s)
  · obtain rfl := eq_of_encode ani rfl; rfl
  · obtain rfl := eq_of_encode xri rfl; rfl
  · obtain rfl := eq_of_encode ori rfl; rfl

/-- Settles O15: `inc8` and `dec8` give the result with its flags, for a register as for M. -/
theorem incrementDecrement : Obligations.IncrementDecrement := by
  unfold Obligations.IncrementDecrement
  intro i s hl inc dec
  refine ⟨fun r => ⟨fun inr => ?_, fun dcr => ?_⟩, fun inrM => ?_, fun dcrM => ?_⟩
  · rw [exec_of_encode_inr inr, incReg, inc8_eq]; rfl
  · rw [exec_of_encode_dcr dcr, decReg, dec8_eq]; rfl
  · obtain rfl := eq_of_encode inrM rfl
    change incMem s = _
    rw [incMem, inc8_eq]; rfl
  · obtain rfl := eq_of_encode dcrM rfl
    change decMem s = _
    rw [decMem, dec8_eq]; rfl

/-- Settles O16: the pair of the statement is the model's. -/
theorem pairIncrementDecrement : Obligations.PairIncrementDecrement := by
  unfold Obligations.PairIncrementDecrement
  intro i p s
  rw [withPair_eq_setPair, withPair_eq_setPair, pairValue_eq_pair]
  exact ⟨fun inx => exec_of_encode_inx inx s, fun dcx => exec_of_encode_dcx dcx s⟩

/-- Settles O17: HL gets the sum, and CY its carry out of bit 15, by `addPair_eq`. -/
theorem doubleAdd : Obligations.DoubleAdd := by
  unfold Obligations.DoubleAdd
  intro i p s h sum
  simp only [sum, pairValue_eq_pair]
  exact (exec_of_encode_dad h s).trans (addPair_eq p s)

/-- Settles O18: byte 27 is DAA, whose adjustment is the statement's. -/
theorem decimalAdjust : Obligations.DecimalAdjust := by
  unfold Obligations.DecimalAdjust
  intro i s h
  obtain rfl := eq_of_encode h rfl
  rw [← daa8_eq_daa]; rfl

/-- Settles O19: each clause names one instruction; a rotate writes A and CY. -/
theorem specialsAndRotates : Obligations.SpecialsAndRotates := by
  unfold Obligations.SpecialsAndRotates
  intro i s a rotated
  have rotate {r : Byte × Bool} {b : Byte} {c : Bool} (h : r = (b, c)) : rotateA r s = .next (rotated b c) := by
    rw [h]; rfl
  refine ⟨fun cma => ?_, fun stc => ?_, fun cmc => ?_, fun rlc => ?_, fun rrc => ?_, fun ral => ?_, fun rar => ?_⟩
  · obtain rfl := eq_of_encode cma rfl
    rw [← BitVec.xor_allOnes]; rfl
  · obtain rfl := eq_of_encode stc rfl; rfl
  · obtain rfl := eq_of_encode cmc rfl; rfl
  · obtain rfl := eq_of_encode rlc rfl; exact rotate (rotLeft_eq a)
  · obtain rfl := eq_of_encode rrc rfl; exact rotate (rotRight_eq a)
  · obtain rfl := eq_of_encode ral rfl; exact rotate (rotLeftCarry_eq a s.flags.cy)
  · obtain rfl := eq_of_encode rar rfl; exact rotate (rotRightCarry_eq a s.flags.cy)

/-- Settles O55: DAA sees the sum and the flags that ACI left. -/
theorem daaGivesDecimalSum : Obligations.DaaGivesDecimalSum := by
  unfold Obligations.DaaGivesDecimalSum
  intro s y hx hy sum
  obtain ⟨bcd, value⟩ := daa_add_bcd (cin := s.flags.cy) hx hy
  have carry := (daa_cy_iff _ _).trans (adjustsHigh_add (cin := s.flags.cy) hx hy)
  rw [← add8_eq_add, ← daa8_eq_daa] at bcd value carry
  exact ⟨_, _, rfl, rfl, bcd, value, carry⟩

end Sys2Proof.Proofs

/-! Branch control (spec/42_branch_control.md R190 to R219): what the bytes of each branch run, and that a return from a call
or from a fixed-vector interrupt entry resumes at the saved PC (spec/60_exceptions.md R257, R261). -/

namespace Sys2Proof.Proofs

open Sys2Proof.Machine Sys2Proof.Spec

/-! ### What the bytes run -/

/-- `11 ccc 010` is the conditional jump. -/
theorem exec_of_encode_jumpIf {i : Instr} {ccc : BitVec 3} {lo hi : Byte} (h : encode i = [op 3 ccc 2, lo, hi])
    (s : State) : exec i s = jumpIf (Cond.ofCode ccc.toNat) (joinBytes hi lo) s := by
  obtain ⟨code, hcode, rfl⟩ := exists_lt_eq_ofNat ccc
  interval_cases code <;> (obtain rfl := eq_of_encode h rfl; rfl)

/-- `11 ccc 000` is the conditional return. -/
theorem exec_of_encode_returnIf {i : Instr} {ccc : BitVec 3} (h : encode i = [op 3 ccc 0]) (s : State) :
    exec i s = returnIf (Cond.ofCode ccc.toNat) s := by
  obtain ⟨code, hcode, rfl⟩ := exists_lt_eq_ofNat ccc
  interval_cases code <;> (obtain rfl := eq_of_encode h rfl; rfl)

/-! ### The whole next state -/

/-- A conditional branch, taken or not: where its condition does not hold, the state is left as it was (R190). -/
theorem conditional_cases {r : Result} {s t : State} {ccc : BitVec 3}
    (h : r = .next (if s.flags.holds (Cond.ofCode ccc.toNat) then t else s)) :
    (conditionHolds s.flags ccc → r = .next t) ∧ (¬ conditionHolds s.flags ccc → r = .next s) := by
  rw [← holds_ofCode_iff]
  exact ⟨fun taken => by rw [h, if_pos taken], fun notTaken => by rw [h, if_neg notTaken]⟩

theorem callTo_eq_called (a : Word) (s : State) : s.callTo a = called s a := by
  simp only [State.callTo, State.push16, State.pushBytes, State.setPc, State.setSp, called]

/-- A return reads the low byte at SP, then the high byte at SP+1 (R210). -/
theorem returnFrom_eq (s : State) :
    s.returnFrom = { ((s.memRead s.sp).2.memRead (s.sp + 1)).2 with
      sp := s.sp + 2
      pc := joinBytes ((s.memRead s.sp).2.memRead (s.sp + 1)).1 (s.memRead s.sp).1 } := by
  simp only [State.returnFrom, State.pop16, State.memRead16, State.setPc, State.setSp]

/-- Settles O20: JMP and PCHL are one instruction each, Jcc by its condition. -/
theorem jumps : Obligations.Jumps := by
  unfold Obligations.Jumps
  intro i lo hi s
  refine ⟨fun jmp => ?_, fun ccc jcc => conditional_cases (exec_of_encode_jumpIf jcc s), fun pchl => ?_⟩
  · obtain rfl := eq_of_encode jmp rfl; rfl
  · obtain rfl := eq_of_encode pchl rfl; rfl

/-- Settles O21: CALL, Ccc taken and RST n are each the model's call. -/
theorem calls : Obligations.Calls := by
  unfold Obligations.Calls
  intro i lo hi s
  simp only [← callTo_eq_called]
  refine ⟨fun call => ?_, fun ccc ccall => conditional_cases (exec_of_encode_callIf ccall s),
    fun n rst => exec_of_encode_restart rst s⟩
  obtain rfl := eq_of_encode call rfl; rfl

/-- Settles O22: RET and Rcc taken are each the model's return. -/
theorem returns : Obligations.Returns := by
  unfold Obligations.Returns
  intro i s lo hi returned
  have popped : s.returnFrom = returned := returnFrom_eq s
  rw [← popped]
  refine ⟨fun ret => ?_, fun ccc rcc => conditional_cases (exec_of_encode_returnIf rcc s)⟩
  obtain rfl := eq_of_encode ret rfl; rfl

/-! ### A pop after a push -/

/-- Whether a push writes to RAM turns on SP and the map alone. -/
theorem stackInRam_of_eq {s t : State} (hsp : t.sp = s.sp) (hmap : t.map = s.map) (h : stackInRam s) : stackInRam t := by
  simpa only [stackInRam, State.kindAt, hsp, hmap] using h

/-- The bytes that a push leaves, where the stack is RAM: the low one at SP-2, the high one at SP-1 (43 R230). -/
theorem byteAt_pushBytes {s : State} (hi lo : Byte) (hwf : s.mem.wf = true) (hstack : stackInRam s) :
    (s.pushBytes hi lo).byteAt (s.sp - 2) = lo ∧ (s.pushBytes hi lo).byteAt (s.sp - 1) = hi := by
  obtain ⟨highRam, lowRam⟩ := hstack
  have written (b : Word) :
      (s.pushBytes hi lo).byteAt b = ((s.memWrite (s.sp - 1) hi).memWrite (s.sp - 2) lo).byteAt b := rfl
  constructor
  · rw [written, byteAt_memWrite_same lo ((kindAt_memWrite ..).trans lowRam) (memWrite_wf _ hi hwf)]
  · rw [written, byteAt_memWrite_other lo _ (by bv_omega), byteAt_memWrite_same hi highRam hwf]

/-- A pop gives the bytes of the push before it and takes SP back, whatever else changed in between, where memory, its map
and SP are as the push left them and the stack is RAM. -/
theorem pop16_of_pushed {s t : State} {hi lo : Byte} (hwf : s.mem.wf = true) (hstack : stackInRam s)
    (hmem : t.mem = (s.pushBytes hi lo).mem) (hmap : t.map = s.map) (hsp : t.sp = s.sp - 2) :
    t.pop16 = (joinBytes hi lo, t.setSp s.sp) := by
  obtain ⟨lowByteAt, highByteAt⟩ := byteAt_pushBytes hi lo hwf hstack
  obtain ⟨highRam, lowRam⟩ := hstack
  have hkind (a : Word) : t.kindAt a = s.kindAt a := by simp only [State.kindAt, hmap]
  have hbyte (a : Word) : t.byteAt a = (s.pushBytes hi lo).byteAt a := by simp only [State.byteAt, hmem]
  have low : t.memRead (s.sp - 2) = (lo, t) := by
    rw [memRead_stored (.inl ((hkind _).trans lowRam)), hbyte, lowByteAt]
  have high : t.memRead (s.sp - 1) = (hi, t) := by
    rw [memRead_stored (.inl ((hkind _).trans highRam)), hbyte, highByteAt]
  have highSlot : s.sp - 2 + 1 = s.sp - 1 := by bv_omega
  have spBack : s.sp - 2 + 2 = s.sp := BitVec.sub_add_cancel ..
  simp only [State.pop16, State.memRead16, hsp, low, highSlot, high, spBack]

/-! ### A return after a call -/

/-- A return from a call moves PC and SP alone, back to what they were at the call (R201, R210). -/
theorem returnFrom_callTo (a : Word) {s : State} (hwf : s.mem.wf = true) (hstack : stackInRam s) :
    (s.callTo a).returnFrom = { s.callTo a with pc := s.pc, sp := s.sp } := by
  have popped : (s.callTo a).pop16 = (joinBytes (highByte s.pc) (lowByte s.pc), (s.callTo a).setSp s.sp) :=
    pop16_of_pushed hwf hstack rfl (callTo_map a s) rfl
  rw [State.returnFrom, popped, joinBytes_high_low]
  rfl

/-- RET in the second state resumes the first: PC, SP, the registers and the flags are the first state's. -/
def Resumes (s t : State) : Prop :=
  ∃ u, exec .ret t = .next u ∧ u.pc = s.pc ∧ u.sp = s.sp ∧ u.regs = s.regs ∧ u.flags = s.flags

theorem callTo_resumes (a : Word) {s : State} (hwf : s.mem.wf = true) (hstack : stackInRam s) :
    Resumes s (s.callTo a) := by
  refine ⟨(s.callTo a).returnFrom, rfl, ?_⟩
  rw [returnFrom_callTo a hwf hstack]
  exact ⟨rfl, rfl, callTo_regs a s, callTo_flags a s⟩

/-! ### A return after an interrupt entry -/

@[simp] theorem atBoundary_regs (s : State) : (atBoundary s).regs = s.regs := by simp [atBoundary]
@[simp] theorem atBoundary_sp (s : State) : (atBoundary s).sp = s.sp := by simp [atBoundary]

/-- An entry with a fixed vector is a call, made from a state with the PC, SP, registers, flags, memory and map of the state
entered from (60_exceptions.md R257). -/
theorem takeInterrupt_resumes (v : Vectored) {s : State} (hwf : s.mem.wf = true) (hstack : stackInRam s) :
    Resumes s (s.takeInterrupt v) := by
  have resumes : Resumes (s.answerRequest v).clearForEntry (s.takeInterrupt v) :=
    callTo_resumes v.vector (by simpa using hwf) (stackInRam_of_eq (by simp) (by simp) hstack)
  simpa [Resumes] using resumes

/-- A step that accepts a fixed-vector source takes that interrupt at its boundary (60_exceptions.md R257). -/
theorem step_of_vectored {s : State} {v : Vectored} (hreset : ¬ resetRequested s)
    (haccepted : (atBoundary s).accepted = some (.vectored v)) : step s = .next ((atBoundary s).takeInterrupt v) := by
  have hcycle : step s = boundary (atBoundary s) := if_neg hreset
  simp only [hcycle, boundary, haccepted]

/-- Settles O57: CALL, RST and the entry are each a call, from which RET resumes; the boundary of a step leaves what is
resumed as it was. -/
theorem returnResumes : Obligations.ReturnResumes := by
  unfold Obligations.ReturnResumes
  intro s hwf hstack resumes
  refine ⟨fun adr => ⟨s.callTo adr, rfl, callTo_resumes adr hwf hstack⟩, fun n i h => ?rst,
    fun v hreset haccepted => ?entry⟩
  case rst => exact ⟨_, exec_of_encode_restart h s, callTo_resumes _ hwf hstack⟩
  case entry =>
    have boundaryResumes : Resumes (atBoundary s) ((atBoundary s).takeInterrupt v) :=
      takeInterrupt_resumes v (by simpa using hwf) (stackInRam_of_eq (atBoundary_sp s) (atBoundary_map s) hstack)
    exact ⟨_, step_of_vectored hreset haccepted, by simpa [Resumes] using boundaryResumes⟩

end Sys2Proof.Proofs

/-! The stack instructions (spec/43_stack_io_machine_control.md R231 to R236): what the bytes of each run, its whole next
state, and that POP PSW undoes PUSH PSW whatever the undefined bits of the flag byte were drawn as. -/

namespace Sys2Proof.Proofs

open Sys2Proof.Machine Sys2Proof.Spec

/-! ### The bits of a byte written bit by bit -/

/-- Bit 7 is the first of the bits listed, bit 0 the last (00_scope.md R7). -/
theorem getLsbD_byteOfBits (b7 b6 b5 b4 b3 b2 b1 b0 : Bool) :
    let v := byteOfBits b7 b6 b5 b4 b3 b2 b1 b0
    v.getLsbD 7 = b7 ∧ v.getLsbD 6 = b6 ∧ v.getLsbD 5 = b5 ∧ v.getLsbD 4 = b4 ∧
      v.getLsbD 3 = b3 ∧ v.getLsbD 2 = b2 ∧ v.getLsbD 1 = b1 ∧ v.getLsbD 0 = b0 := by
  simp only [byteOfBits, BitVec.getLsbD_append, BitVec.getLsbD_ofBool]
  simp

/-! ### The whole next state -/

/-- The state after the three draws of PUSH PSW (10_state.md R29). -/
def afterDraws (s : State) : State := s.anyBit.2.anyBit.2.anyBit.2

/-- The flag byte of PUSH PSW: its bits 5, 3 and 1 are drawn in that order. -/
def drawnFlagByte (s : State) : Byte := s.flags.toByte s.anyBit.1 s.anyBit.2.anyBit.1 s.anyBit.2.anyBit.2.anyBit.1

@[simp] theorem afterDraws_sp (s : State) : (afterDraws s).sp = s.sp := by simp [afterDraws]
@[simp] theorem afterDraws_mem (s : State) : (afterDraws s).mem = s.mem := by simp [afterDraws]
@[simp] theorem afterDraws_map (s : State) : (afterDraws s).map = s.map := by simp [afterDraws]

/-- PUSH PSW pushes A and the flag byte, after the draws (R232). -/
theorem pushPsw_eq (s : State) : pushPsw s = .next ((afterDraws s).pushBytes s.regs.a (drawnFlagByte s)) := rfl

/-- A pop reads the low byte at SP, then the high byte at SP+1 (R230). -/
theorem pop16_eq (s : State) :
    s.pop16 = (joinBytes ((s.memRead s.sp).2.memRead (s.sp + 1)).1 (s.memRead s.sp).1,
      ((s.memRead s.sp).2.memRead (s.sp + 1)).2.setSp (s.sp + 2)) := rfl

/-- POP rp: the high byte goes to the left register of the pair, the low byte to the right one (R233). -/
theorem popPair_eq (s : State) : let lo := s.memRead s.sp
    let hi := lo.2.memRead (s.sp + 1)
    popPair .b s = .next { hi.2 with sp := s.sp + 2, regs := { s.regs with b := hi.1, c := lo.1 } } ∧
    popPair .d s = .next { hi.2 with sp := s.sp + 2, regs := { s.regs with d := hi.1, e := lo.1 } } ∧
    popPair .h s = .next { hi.2 with sp := s.sp + 2, regs := { s.regs with h := hi.1, l := lo.1 } } := by
  simp only [popPair, pop16_eq, State.setPair, State.setSp, highByte_joinBytes, lowByte_joinBytes, memRead_regs, and_self]

/-- POP PSW: the flags from the low byte, A from the high byte (R234). -/
theorem popPsw_eq (s : State) : let lo := s.memRead s.sp
    let hi := lo.2.memRead (s.sp + 1)
    popPsw s = .next
      { hi.2 with sp := s.sp + 2, regs := { s.regs with a := hi.1 }, flags := Flags.ofByte lo.1 } := by
  simp only [popPsw, pop16_eq, State.setReg, Regs.set, State.setSp, highByte_joinBytes, lowByte_joinBytes, memRead_regs]

/-- XTHL reads both bytes before it writes either (R235). -/
theorem exchangeTop_eq (s : State) : let lo := s.memRead s.sp
    let hi := lo.2.memRead (s.sp + 1)
    exchangeTop s = .next
      { (hi.2.memWrite (s.sp + 1) s.regs.h).memWrite s.sp s.regs.l with
        regs := { s.regs with h := hi.1, l := lo.1 } } := by
  simp only [exchangeTop, State.memRead16, State.setPair, highByte_joinBytes, lowByte_joinBytes, memWrite_regs,
    memRead_regs]

/-! ### The statements -/

/-- Settles O23: a pair by its bytes; PUSH PSW pushes the drawn flag byte, whose bits are read off one by one. -/
theorem pushes : Obligations.Pushes := by
  unfold Obligations.Pushes
  intro i s
  refine ⟨fun p hp push => ?pair, fun pushPsw => ⟨drawnFlagByte s, ?psw⟩⟩
  case pair =>
    rw [pairValue_eq_pair]
    exact exec_of_encode_push hp push s
  case psw =>
    obtain rfl := eq_of_encode pushPsw rfl
    obtain ⟨b7, b6, b5, b4, b3, b2, b1, b0⟩ := getLsbD_byteOfBits s.flags.s s.flags.z s.anyBit.1 s.flags.ac
      s.anyBit.2.anyBit.1 s.flags.p s.anyBit.2.anyBit.2.anyBit.1 s.flags.cy
    refine ⟨b7, b6, b4, b2, b0, b5, b3, b1, (pushPsw_eq s).trans ?_⟩
    simp only [State.pushBytes, State.setSp, afterDraws_sp]
    rfl

/-- Settles O24: each clause names one instruction. -/
theorem pops : Obligations.Pops := by
  unfold Obligations.Pops
  intro i s lo hi
  obtain ⟨bc, de, hl⟩ := popPair_eq s
  refine ⟨fun popB => ?_, fun popD => ?_, fun popH => ?_, fun popPSW => ?_⟩
  · obtain rfl := eq_of_encode popB rfl; exact bc
  · obtain rfl := eq_of_encode popD rfl; exact de
  · obtain rfl := eq_of_encode popH rfl; exact hl
  · obtain rfl := eq_of_encode popPSW rfl; exact popPsw_eq s

/-- Settles O25: each clause names one instruction. -/
theorem stackExchange : Obligations.StackExchange := by
  unfold Obligations.StackExchange
  intro i s lo hi
  refine ⟨fun xthl => ?_, fun sphl => ?_⟩
  · obtain rfl := eq_of_encode xthl rfl; exact exchangeTop_eq s
  · obtain rfl := eq_of_encode sphl rfl; rfl

/-- POP PSW after a push of A's byte and a flag byte gives both back, whatever else changed in between, where memory, its map
and SP are as the push left them and the stack is RAM. -/
theorem popPsw_of_pushed {s t : State} {a : Byte} {f : Flags} {u5 u3 u1 : Bool} (hwf : s.mem.wf = true)
    (hstack : stackInRam s) (hmem : t.mem = (s.pushBytes a (f.toByte u5 u3 u1)).mem) (hmap : t.map = s.map)
    (hsp : t.sp = s.sp - 2) :
    popPsw t = .next { t with regs := { t.regs with a := a }, flags := f, sp := s.sp } := by
  simp only [popPsw, pop16_of_pushed hwf hstack hmem hmap hsp, highByte_joinBytes, lowByte_joinBytes, ofByte_toByte,
    State.setReg, Regs.set, State.setSp]

/-- Settles O58: the draws leave memory, SP and the registers alone, and the flags do not turn on the bits drawn. -/
theorem pswRestored : Obligations.PswRestored := by
  unfold Obligations.PswRestored
  intro s r f hwf hstack
  have popped := popPsw_of_pushed (s := afterDraws s)
    (t := { (afterDraws s).pushBytes s.regs.a (drawnFlagByte s) with regs := r, flags := f })
    (by simpa using hwf) (stackInRam_of_eq (afterDraws_sp s) (afterDraws_map s) hstack) rfl (pushBytes_map ..) rfl
  exact ⟨_, _, pushPsw_eq s, popped, rfl, rfl, afterDraws_sp s⟩

end Sys2Proof.Proofs

/-! Input and output, interrupt control, RIM, SIM and the halt state (spec/43_stack_io_machine_control.md R237 to R245): the
whole next state of each instruction, the EI bookkeeping of R241 and what may be accepted right after EI. -/

namespace Sys2Proof.Proofs

open Sys2Proof.Machine Sys2Proof.Spec

/-! ### Input, output and the masks -/

/-- An answer changes the environment alone. -/
theorem answer_snd (s : State) : s.answer.2 = { s with env := s.answer.2.env } := by
  unfold State.answer
  split <;> rfl

@[simp] theorem answer_events (s : State) : s.answer.2.env.events = s.env.events := by
  unfold State.answer
  split <;> rfl

/-- IN takes the answer into A and records the read (R237). -/
theorem inputPort_eq (port : Byte) (s : State) :
    inputPort port s = .next
      { s with
        regs := { s.regs with a := s.answer.1 }
        env := { s.answer.2.env with events := s.env.events ++ [.portRead port s.answer.1] } } := by
  simp only [inputPort, State.ioRead, State.record, State.setReg, Regs.set, answer_events]
  rw [answer_snd]

/-- Bit 3 of RIM, with the state after its draw: right after EI a draw (log 7), else IE_AT_TRAP in the first RIM after a TRAP
entry and IE in every other (R244). -/
def rimEnableBit (s : State) : Bool × State :=
  if s.eiPending then s.anyBit else (if s.ieAtTrapValid then s.ieAtTrap else s.ie, s)

/-- RIM loads the image with that bit and changes nothing else but IE_AT_TRAP_VALID. -/
theorem readMasks_eq (s : State) :
    readMasks s = .next { (rimEnableBit s).2 with
      regs := { s.regs with a := s.rimImage (rimEnableBit s).1 }
      ieAtTrapValid := false } := by
  have drawn : (rimEnableBit s).2.regs = s.regs := by
    unfold rimEnableBit
    split <;> simp
  rw [← drawn]
  rfl

/-- Settles O26: IN by `inputPort_eq`; OUT records the write. -/
theorem inputOutput : Obligations.InputOutput := by
  unfold Obligations.InputOutput
  intro i port s
  refine ⟨fun inp => ?_, fun out => ?_⟩
  · obtain rfl := eq_of_encode inp rfl; exact inputPort_eq port s
  · obtain rfl := eq_of_encode out rfl; rfl

/-- Settles O27: each clause names one instruction. -/
theorem interruptControl : Obligations.InterruptControl := by
  unfold Obligations.InterruptControl
  intro i s
  refine ⟨fun di => ?_, fun ei => ?_, fun nop => ?_, fun hlt => ?_⟩
  · obtain rfl := eq_of_encode di rfl; rfl
  · obtain rfl := eq_of_encode ei rfl; rfl
  · obtain rfl := eq_of_encode nop rfl; rfl
  · obtain rfl := eq_of_encode hlt rfl; rfl

/-- Settles O28: seven bits of the image are read off; bit 3 and the state it leaves turn on the pending enable. -/
theorem readInterruptMasks : Obligations.ReadInterruptMasks := by
  unfold Obligations.ReadInterruptMasks
  intro i s h
  obtain rfl := eq_of_encode h rfl
  obtain ⟨b7, b6, b5, b4, b3, b2, b1, b0⟩ := getLsbD_byteOfBits s.env.lines.sid s.i75 s.env.lines.r65 s.env.lines.r55
    (rimEnableBit s).1 s.m75 s.m65 s.m55
  refine ⟨s.rimImage (rimEnableBit s).1, b7, b6, b5, b4, b2, b1, b0, fun notPending => ?_, fun pending => ?_⟩
  · have bit : rimEnableBit s = (if s.ieAtTrapValid then s.ieAtTrap else s.ie, s) :=
      if_neg (Bool.eq_false_iff.mp notPending)
    exact ⟨b3.trans (by rw [bit]), (readMasks_eq s).trans (by rw [bit])⟩
  · have bit : rimEnableBit s = s.anyBit := if_pos pending
    exact ⟨b3.trans (by rw [bit]), (readMasks_eq s).trans (by rw [bit])⟩

/-- Settles O29: each part is a conditional of its own, on its own enable bit of A. -/
theorem setInterruptMasks : Obligations.SetInterruptMasks := by
  unfold Obligations.SetInterruptMasks
  intro i s h
  obtain rfl := eq_of_encode h rfl
  refine ⟨_, rfl, fun masks => ?_, fun masks => ?_, fun reset => ?_, fun reset => ?_, fun serial => ?_,
    fun serial => ?_, rfl⟩
  · exact ⟨if_pos masks, if_pos masks, if_pos masks⟩
  · have masks' := Bool.eq_false_iff.mp masks
    exact ⟨if_neg masks', if_neg masks', if_neg masks'⟩
  · exact if_pos reset
  · exact if_neg (Bool.eq_false_iff.mp reset)
  · exact if_pos serial
  · exact if_neg (Bool.eq_false_iff.mp serial)

/-! ### The EI delay -/

/-- A byte 1 that is a whole instruction has no other (30_encoding.md R80). -/
theorem eq_of_opcode {i j : Instr} {b : Byte} (hf : formatOf b = .f1 j) (h : opcode i = b.toNat) : i = j := by
  cases he : encode i with
  | nil => exact absurd he (encode_ne_nil i)
  | cons b' rest =>
    have hb : b' = b := by
      rw [← byte1_of_encode_cons he]
      exact BitVec.eq_of_toNat_eq h
    have hd := decode_encode i
    simp only [he, hb, decode, hf] at hd
    cases hd
    rfl

theorem opcode_eq_ei_iff {i : Instr} : opcode i = 0xFB ↔ i = .ei :=
  ⟨fun h => eq_of_opcode (b := 0xFB) rfl h, fun h => by rw [h]; rfl⟩

theorem opcode_eq_di_iff {i : Instr} : opcode i = 0xF3 ↔ i = .di :=
  ⟨fun h => eq_of_opcode (b := 0xF3) rfl h, fun h => by rw [h]; rfl⟩

/-- Settles O32: the two cases of the bookkeeping, EI and DI known by byte 1. -/
theorem enableAfterNextInstruction : Obligations.EnableAfterNextInstruction := by
  unfold Obligations.EnableAfterNextInstruction
  intro s t u i hexecutes hfetch hexec
  have hstep : step s = .next (u.afterInstruction s.eiPending i) := by
    rw [step_of_fetch_ok hexecutes hfetch, hexec]
    rfl
  rw [hstep, Ne, Ne, opcode_eq_ei_iff, opcode_eq_di_iff]
  rcases afterInstruction_cases s.eiPending i u with ⟨pending, notEi, notDi, enabled⟩ | ⟨stands, kept⟩
  · rw [enabled]
    exact ⟨fun _ _ _ => rfl, fun stands => by simp [pending, notEi, notDi] at stands⟩
  · rw [kept]
    exact ⟨fun pending notEi notDi => by simp [pending, notEi, notDi] at stands, fun _ => rfl⟩

@[simp] theorem atBoundary_ie (s : State) : (atBoundary s).ie = s.ie := by simp [atBoundary]

/-- With an enable pending TRAP alone is eligible (60_exceptions.md R255). -/
theorem eligible_of_pending {s : State} {src : Source} (pending : s.eiPending = true) (h : s.eligible src = true) :
    src = .vectored .trap := by
  have shut : s.maskableOpen = false := by simp [State.maskableOpen, pending]
  cases src with
  | intr => simp [State.eligible, shut] at h
  | vectored v =>
    cases v with
    | trap => rfl
    | rst75 | rst65 | rst55 => simp [State.eligible, shut] at h

/-- Settles O41: the bookkeeping leaves EI's own state, in which an enable is pending. -/
theorem noMaskableRightAfterEi : Obligations.NoMaskableRightAfterEi := by
  unfold Obligations.NoMaskableRightAfterEi
  intro s t hexecutes hfetch
  have hstep : step s = .next (({ t with eiPending := true } : State).afterInstruction s.eiPending .ei) :=
    step_of_fetch_ok hexecutes hfetch
  rcases afterInstruction_cases s.eiPending .ei { t with eiPending := true } with ⟨-, notEi, -, -⟩ | ⟨-, kept⟩
  · exact absurd rfl notEi
  · rw [kept] at hstep
    refine ⟨_, hstep, (fetch_control hfetch).ie.trans (atBoundary_ie s), rfl, fun src haccepted => ?_⟩
    exact eligible_of_pending (atBoundary_eiPending _) (List.find?_some haccepted)

/-! ### The halt state -/

@[simp] theorem takeSample_events (s : State) : s.takeSample.env.events = s.env.events := by
  unfold State.takeSample
  split <;> rfl

@[simp] theorem atBoundary_events (s : State) : (atBoundary s).env.events = s.env.events := by simp [atBoundary]

/-- Settles O39: a halted step with nothing to accept ends at its boundary, which takes a sample and latches edges only. -/
theorem haltHolds : Obligations.HaltHolds := by
  unfold Obligations.HaltHolds
  intro s hhalted hreset haccepted
  have hcycle : step s = boundary (atBoundary s) := if_neg hreset
  have hidle : step s = .next (atBoundary s) := by simp [hcycle, boundary, haccepted, hhalted]
  exact ⟨atBoundary s, hidle, (atBoundary_halted s).trans hhalted, atBoundary_regs s, atBoundary_flags s,
    atBoundary_pc s, atBoundary_sp s, atBoundary_mem s, atBoundary_events s⟩

end Sys2Proof.Proofs

/-! What the environment has received (spec/20_memory.md R62; 43_stack_io_machine_control.md R238): every operation keeps the
events there are and adds at most new ones at their end. -/

namespace Sys2Proof.Proofs

open Sys2Proof.Machine Sys2Proof.Spec

/-- From `s` to `t` the environment keeps the events it has received, in their order, and receives at most new ones after
them. -/
def OutputGrows (s t : State) : Prop := ∃ es, t.env.events = s.env.events ++ es

theorem OutputGrows.of_events_eq {s t : State} (h : t.env.events = s.env.events) : OutputGrows s t := ⟨[], by simp [h]⟩

theorem OutputGrows.trans {s t u : State} (h : OutputGrows s t) (h' : OutputGrows t u) : OutputGrows s u := by
  obtain ⟨es, first⟩ := h
  obtain ⟨es', second⟩ := h'
  exact ⟨es ++ es', by rw [second, first, List.append_assoc]⟩

/-! ### What records no event -/

@[simp] theorem anyBit_events (s : State) : s.anyBit.2.env.events = s.env.events := by
  unfold State.anyBit
  split <;> rfl

@[simp] theorem intaReply_events (s : State) : s.intaReply.2.env.events = s.env.events := by
  unfold State.intaReply
  split <;> rfl

@[simp] theorem answerRequest_events (v : Vectored) (s : State) : (s.answerRequest v).env.events = s.env.events := by
  rcases answerRequest_cases v s with ⟨-, -, h⟩ | ⟨-, -, h⟩ | ⟨-, h⟩ | ⟨-, h⟩ <;> simp [h]

/-! ### Memory and port accesses -/

theorem record_outputGrows (e : BusEvent) (s : State) : OutputGrows s (s.record e) := ⟨[e], rfl⟩

/-- An access that the environment answers is recorded. -/
theorem answer_record_outputGrows (e : BusEvent) (s : State) : OutputGrows s (s.answer.2.record e) :=
  have answered : OutputGrows s s.answer.2 := .of_events_eq (answer_events s)
  answered.trans (record_outputGrows e _)

/-- A read is recorded at a device address only (20_memory.md R51). -/
theorem memRead_outputGrows (a : Word) (s : State) : OutputGrows s (s.memRead a).2 := by
  rcases memRead_cases a s with ⟨-, stored⟩ | ⟨-, absent⟩ | ⟨-, device⟩
  · rw [stored]; exact .of_events_eq rfl
  · rw [absent]; exact .of_events_eq rfl
  · rw [device]; exact answer_record_outputGrows _ s

/-- A write is recorded at a device address only (20_memory.md R51). -/
theorem memWrite_outputGrows (a : Word) (v : Byte) (s : State) : OutputGrows s (s.memWrite a v) := by
  rcases memWrite_cases a v s with ⟨-, ram⟩ | ⟨-, ignored⟩ | ⟨-, device⟩
  · rw [ram]; exact .of_events_eq rfl
  · rw [ignored]; exact .of_events_eq rfl
  · rw [device]; exact record_outputGrows _ s

theorem memRead16_outputGrows (a : Word) (s : State) : OutputGrows s (s.memRead16 a).2 :=
  (memRead_outputGrows a s).trans (memRead_outputGrows (a + 1) _)

theorem two_memWrites_outputGrows (a b : Word) (v w : Byte) (s : State) :
    OutputGrows s ((s.memWrite a v).memWrite b w) :=
  (memWrite_outputGrows a v s).trans (memWrite_outputGrows b w _)

theorem opnd8_outputGrows (o : Opnd) (s : State) : OutputGrows s (s.opnd8 o).2 := by
  cases o with
  | reg r => exact .of_events_eq rfl
  | m => exact memRead_outputGrows s.hl s

/-! ### The stack -/

theorem pushBytes_outputGrows (hi lo : Byte) (s : State) : OutputGrows s (s.pushBytes hi lo) :=
  two_memWrites_outputGrows (s.sp - 1) (s.sp - 2) hi lo s

theorem callTo_outputGrows (a : Word) (s : State) : OutputGrows s (s.callTo a) :=
  pushBytes_outputGrows (highByte s.pc) (lowByte s.pc) s

theorem returnFrom_outputGrows (s : State) : OutputGrows s s.returnFrom :=
  memRead16_outputGrows s.sp s

theorem popPair_outputGrows {p : Pair} {s t : State} (h : popPair p s = .next t) : OutputGrows s t := by
  cases h
  have popped : OutputGrows s s.pop16.2 := memRead16_outputGrows s.sp s
  exact popped.trans (.of_events_eq (by simp))

/-- The draws of PUSH PSW record nothing. -/
theorem pushPsw_outputGrows {s t : State} (h : pushPsw s = .next t) : OutputGrows s t := by
  cases h
  have drawn : OutputGrows s (afterDraws s) := .of_events_eq (by simp [afterDraws])
  exact drawn.trans (pushBytes_outputGrows _ _ _)

theorem exchangeTop_outputGrows {s t : State} (h : exchangeTop s = .next t) : OutputGrows s t := by
  cases h
  have read := memRead16_outputGrows s.sp s
  have written := read.trans (two_memWrites_outputGrows (s.sp + 1) s.sp s.regs.h s.regs.l _)
  exact written.trans (.of_events_eq (by simp))

/-! ### Every instruction -/

theorem runs_outputGrows {s t : State} {r : Result} {b : Byte} (h : Runs s r b) (hr : r = .next t) : OutputGrows s t := by
  cases h with
  | movFromM | ldaxB | ldaxD | lda => cases hr; exact memRead_outputGrows _ s
  | movToM | mviM | staxB | staxD | sta => cases hr; exact memWrite_outputGrows _ _ s
  | add o | adc o | sub o | sbb o | ana o | xra o | ora o | cmp o => cases hr; exact opnd8_outputGrows o s
  | inrM | dcrM => cases hr; exact (memRead_outputGrows s.hl s).trans (memWrite_outputGrows s.hl _ _)
  | lhld a => cases hr; exact memRead16_outputGrows a s
  | shld a => cases hr; exact two_memWrites_outputGrows a (a + 1) _ _ s
  | push => cases hr; exact pushBytes_outputGrows _ _ s
  | pushPsw => exact pushPsw_outputGrows hr
  | pop => exact popPair_outputGrows hr
  | popPsw => cases hr; exact memRead16_outputGrows s.sp s
  | xthl => exact exchangeTop_outputGrows hr
  | call | rst => cases hr; exact callTo_outputGrows _ s
  | ret => cases hr; exact returnFrom_outputGrows s
  | ccc k a =>
    cases hr
    split
    · exact callTo_outputGrows a s
    · exact .of_events_eq rfl
  | rcc k =>
    cases hr
    split
    · exact returnFrom_outputGrows s
    · exact .of_events_eq rfl
  | inp port => cases hr; exact answer_record_outputGrows _ s
  | out => cases hr; exact record_outputGrows _ s
  | undefined => cases hr
  | jcc | rim => cases hr; split <;> exact .of_events_eq (by simp)
  | _ => cases hr; exact .of_events_eq (by simp [State.addToA, State.subFromA, State.logicA])

/-! ### Every step -/

/-- A fetch that answers an instruction has read one, two or three bytes. -/
theorem fetch_ok_state {s t : State} {i : Instr} (h : s.fetch = .ok (i, t)) :
    t = s.fetch8.2 ∨ t = s.fetch8.2.fetch8.2 ∨ t = s.fetch8.2.fetch8.2.fetch8.2 := by
  unfold State.fetch at h
  cases hf : formatOf s.fetch8.1 with
  | f1 j | undefined j => simp only [hf] at h; cases h; exact .inl rfl
  | f2 build => simp only [hf] at h; cases h; exact .inr (.inl rfl)
  | f3 build =>
    simp only [hf] at h
    split at h
    · cases h
    split at h
    · cases h
    cases h
    exact .inr (.inr rfl)

theorem fetch_outputGrows {s t : State} {i : Instr} (h : s.fetch = .ok (i, t)) : OutputGrows s t := by
  have read (u : State) : OutputGrows u u.fetch8.2 := memRead_outputGrows u.pc u
  rcases fetch_ok_state h with rfl | rfl | rfl
  · exact read s
  · exact (read s).trans (read _)
  · exact ((read s).trans (read _)).trans (read _)

theorem takeInterrupt_outputGrows (v : Vectored) (s : State) : OutputGrows s (s.takeInterrupt v) :=
  have cleared : OutputGrows s (s.answerRequest v).clearForEntry := .of_events_eq (by simp)
  cleared.trans (callTo_outputGrows v.vector _)

theorem acknowledgeIntr_outputGrows {s t : State} (h : acknowledgeIntr s = .next t) : OutputGrows s t := by
  obtain ⟨a, rfl⟩ := acknowledgeIntr_eq_callTo h
  have supplied : OutputGrows s s.clearForEntry.intaReply.2 := .of_events_eq (by simp)
  exact supplied.trans (callTo_outputGrows a _)

/-- Settles O48: a reset and an idle step record nothing; an entry is a call; an instruction is fetched, then run. -/
theorem outputOnlyGrows : Obligations.OutputOnlyGrows := by
  unfold Obligations.OutputOnlyGrows
  intro s t h
  have sampled : OutputGrows s (atBoundary s) := .of_events_eq (atBoundary_events s)
  rcases step_cases s with
    ⟨-, reset⟩ | ⟨-, ⟨v, -, entry⟩ | ⟨-, intr⟩ | ⟨-, -, idle⟩ | ⟨-, -, r, -, refused⟩ | ⟨-, -, i, u, fetched, ran⟩⟩
  · rw [reset] at h; cases h
    exact sampled
  · rw [entry] at h; cases h
    exact sampled.trans (takeInterrupt_outputGrows v _)
  · exact sampled.trans (acknowledgeIntr_outputGrows (intr ▸ h))
  · rw [idle] at h; cases h
    exact sampled
  · rw [refused] at h; cases h
  · obtain ⟨w, hexec, rfl⟩ := finishInstruction_next (ran ▸ h)
    have executed := (sampled.trans (fetch_outputGrows fetched)).trans (runs_outputGrows (runs_exec i u) hexec)
    exact executed.trans (.of_events_eq (by simp))

end Sys2Proof.Proofs

/-! Acceptance, requests and the invariant of a step (spec/60_exceptions.md R253, R255, R256): which source is accepted at a
boundary, what becomes of a latched request, and what every step keeps. -/

namespace Sys2Proof.Proofs

open Sys2Proof.Machine Sys2Proof.Spec

/-! ### Acceptance -/

theorem maskableOpen_iff (s : State) : s.maskableOpen = true ↔ s.ie = true ∧ s.eiPending = false := by
  simp [State.maskableOpen]

theorem eligible_trap_iff (s : State) :
    s.eligible (.vectored .trap) = true ↔ s.trapLatch = true ∧ s.env.lines.trap = true := by
  simp [State.eligible]

theorem eligible_rst75_iff (s : State) :
    s.eligible (.vectored .rst75) = true ↔ s.i75 = true ∧ s.m75 = false ∧ s.ie = true ∧ s.eiPending = false := by
  simp [State.eligible, maskableOpen_iff, and_assoc]

theorem eligible_rst65_iff (s : State) :
    s.eligible (.vectored .rst65) = true ↔
      s.env.lines.r65 = true ∧ s.m65 = false ∧ s.ie = true ∧ s.eiPending = false := by
  simp [State.eligible, maskableOpen_iff, and_assoc]

theorem eligible_rst55_iff (s : State) :
    s.eligible (.vectored .rst55) = true ↔
      s.env.lines.r55 = true ∧ s.m55 = false ∧ s.ie = true ∧ s.eiPending = false := by
  simp [State.eligible, maskableOpen_iff, and_assoc]

theorem eligible_intr_iff (s : State) :
    s.eligible .intr = true ↔ s.env.lines.intr = true ∧ s.ie = true ∧ s.eiPending = false := by
  simp [State.eligible, maskableOpen_iff]

/-- `List.find?_cons` as a conditional: the shape of the chain of R256. -/
theorem find?_cons_eq_ite {α : Type} (p : α → Bool) (a : α) (l : List α) :
    (a :: l).find? p = if p a = true then some a else l.find? p := by
  cases h : p a <;> simp [h]

/-- The search through the sources in the order of R256, written out. -/
theorem accepted_eq (s : State) :
    s.accepted =
      if s.eligible (.vectored .trap) = true then some (.vectored .trap)
      else if s.eligible (.vectored .rst75) = true then some (.vectored .rst75)
      else if s.eligible (.vectored .rst65) = true then some (.vectored .rst65)
      else if s.eligible (.vectored .rst55) = true then some (.vectored .rst55)
      else if s.eligible .intr = true then some .intr
      else none := by
  simp only [State.accepted, sourcesByPriority, find?_cons_eq_ite, List.find?_nil]

/-- Settles O36: the sources are searched in the order of R256, each by its eligibility of R255. -/
theorem acceptanceByPriority : Obligations.AcceptanceByPriority := by
  unfold Obligations.AcceptanceByPriority
  intro s lines enabled
  rw [accepted_eq]
  simp only [eligible_trap_iff, eligible_rst75_iff, eligible_rst65_iff, eligible_rst55_iff, eligible_intr_iff]
  rfl

/-- TRAP has the highest priority and no mask: it is accepted exactly where it is latched and its line is high (R255). -/
theorem accepted_eq_trap_iff (s : State) :
    s.accepted = some (.vectored .trap) ↔ s.trapLatch = true ∧ s.env.lines.trap = true := by
  rw [← eligible_trap_iff]
  constructor
  · intro h
    exact List.find?_some h
  · intro h
    rw [accepted_eq, if_pos h]

/-! ### Edge latching -/

@[simp] theorem atBoundary_lines (s : State) : (atBoundary s).env.lines = s.takeSample.env.lines := rfl

@[simp] theorem atBoundary_prev75 (s : State) : (atBoundary s).prev75 = s.takeSample.env.lines.r75 := rfl

@[simp] theorem atBoundary_prevTrap (s : State) : (atBoundary s).prevTrap = s.takeSample.env.lines.trap := rfl

theorem atBoundary_i75_iff (s : State) :
    (atBoundary s).i75 = true ↔ s.i75 = true ∨ (s.takeSample.env.lines.r75 = true ∧ s.prev75 = false) := by
  simp [atBoundary]

theorem atBoundary_trapLatch_iff (s : State) :
    (atBoundary s).trapLatch = true ↔ s.trapLatch = true ∨ (s.takeSample.env.lines.trap = true ∧ s.prevTrap = false) := by
  simp [atBoundary]

/-- Settles O35: a latch is kept or set by a rise of its line. -/
theorem edgesLatched : Obligations.EdgesLatched := by
  unfold Obligations.EdgesLatched
  intro s lines
  exact ⟨atBoundary_i75_iff s, atBoundary_trapLatch_iff s, atBoundary_prev75 s, atBoundary_prevTrap s⟩

/-! ### Canonical memory -/

theorem two_memWrites_wf {s : State} (a b : Word) (v w : Byte) (h : s.mem.wf = true) :
    ((s.memWrite a v).memWrite b w).mem.wf = true :=
  memWrite_wf b w (memWrite_wf a v h)

/-- Every operation keeps memory canonical: those that store do so by writes, the others leave memory alone. -/
theorem runs_mem_wf {s t : State} {r : Result} {b : Byte} (h : Runs s r b) (hr : r = .next t) (hwf : s.mem.wf = true) :
    t.mem.wf = true := by
  cases h with
  | movToM | mviM | staxB | staxD | sta => cases hr; exact memWrite_wf _ _ hwf
  | inrM | dcrM => cases hr; exact memWrite_wf s.hl _ (by simpa using hwf)
  | shld a => cases hr; exact two_memWrites_wf a (a + 1) _ _ hwf
  | push => cases hr; exact pushBytes_wf _ _ hwf
  | pushPsw => cases hr; exact pushBytes_wf _ _ (by simpa using hwf)
  | xthl =>
    cases hr
    have written := two_memWrites_wf (s := (s.memRead16 s.sp).2) (s.sp + 1) s.sp s.regs.h s.regs.l (by simpa using hwf)
    simpa using written
  | call | rst => cases hr; exact callTo_wf _ hwf
  | ccc k a =>
    cases hr
    split
    · exact callTo_wf a hwf
    · exact hwf
  | undefined => cases hr
  | jcc | rcc | rim =>
    cases hr
    split <;> simpa using hwf
  | _ =>
    cases hr
    simpa [State.addToA, State.subFromA, State.logicA] using hwf

theorem exec_mem_wf {i : Instr} {s t : State} (h : exec i s = .next t) (hwf : s.mem.wf = true) : t.mem.wf = true :=
  runs_mem_wf (runs_exec i s) h hwf

theorem takeInterrupt_wf (v : Vectored) {s : State} (hwf : s.mem.wf = true) : (s.takeInterrupt v).mem.wf = true :=
  callTo_wf v.vector (by simpa using hwf)

/-! ### What an instruction and an entry do to the latched requests -/

/-- The levels and the levels remembered (10_state.md R34, 60_exceptions.md R253) are those of `s`. -/
structure SameLevels (s t : State) : Prop where
  prev75 : t.prev75 = s.prev75
  prevTrap : t.prevTrap = s.prevTrap
  lines : t.env.lines = s.env.lines

/-- No instruction writes the levels or TRAP's latch. -/
theorem exec_levels {i : Instr} {s t : State} (h : exec i s = .next t) : SameLevels s t ∧ t.trapLatch = s.trapLatch := by
  rcases runs_control (runs_exec i s) h with same | ⟨-, same⟩ | ⟨-, same⟩ | ⟨-, same⟩ | ⟨-, same⟩ | ⟨-, hsim⟩
  iterate 5 exact ⟨⟨same.prev75, same.prevTrap, same.lines⟩, same.trapLatch⟩
  · cases hsim
    exact ⟨⟨rfl, rfl, rfl⟩, rfl⟩

/-- An instruction keeps the RST 7.5 request, or it is SIM with A[4] = 1 (43_stack_io_machine_control.md R245). -/
theorem exec_i75 {i : Instr} {s t : State} (h : exec i s = .next t) :
    t.i75 = s.i75 ∨ (byte1 i = 0x30 ∧ s.regs.a.getLsbD 4 = true) := by
  rcases runs_control (runs_exec i s) h with same | ⟨-, same⟩ | ⟨-, same⟩ | ⟨-, same⟩ | ⟨-, same⟩ | ⟨hb, hsim⟩
  iterate 5 exact .inl same.i75
  · cases hsim
    by_cases clears : s.regs.a.getLsbD 4 = true
    · exact .inr ⟨hb, clears⟩
    · exact .inl (if_neg clears)

/-- The entry of TRAP, and no other, clears TRAP's latch (60_exceptions.md R257). -/
theorem takeInterrupt_trapLatch (v : Vectored) (s : State) :
    (s.takeInterrupt v).trapLatch = if v = .trap then false else s.trapLatch := by
  cases v <;> simp [State.takeInterrupt, State.answerRequest]

/-- The entry of RST 7.5, and no other, clears its flip-flop (60_exceptions.md R257). -/
theorem takeInterrupt_i75 (v : Vectored) (s : State) :
    (s.takeInterrupt v).i75 = if v = .rst75 then false else s.i75 := by
  cases v with
  | trap => cases h : s.eiPending <;> simp [State.takeInterrupt, State.answerRequest, h]
  | rst75 | rst65 | rst55 => simp [State.takeInterrupt, State.answerRequest]

/-! ### What a step does from its boundary -/

/-- At this boundary the step executes SIM with A[4] = 1. -/
def ResetsRst75 (b : State) : Prop :=
  b.accepted = none ∧ b.halted = false ∧ (b.memRead b.pc).1 = 0x30 ∧ b.regs.a.getLsbD 4 = true

/-- What a step without a reset makes of its boundary `b`: memory stays canonical, the levels are kept, TRAP's latch is cleared
by its acceptance alone, and the RST 7.5 request is kept but for its acceptance and a SIM that resets it. -/
structure AfterBoundary (b t : State) : Prop extends SameLevels b t where
  mem_wf : b.mem.wf = true → t.mem.wf = true
  trapLatch : t.trapLatch = if b.accepted = some (.vectored .trap) then false else b.trapLatch
  i75 : t.i75 = b.i75 ∨ b.accepted = some (.vectored .rst75) ∨ ResetsRst75 b

theorem afterBoundary_takeInterrupt {b : State} {v : Vectored} (haccepted : b.accepted = some (.vectored v)) :
    AfterBoundary b (b.takeInterrupt v) where
  prev75 := by simp
  prevTrap := by simp
  lines := by simp
  mem_wf := takeInterrupt_wf v
  trapLatch := by simp [takeInterrupt_trapLatch, haccepted]
  i75 := by
    by_cases hv : v = .rst75
    · exact .inr (.inl (hv ▸ haccepted))
    · exact .inl (by rw [takeInterrupt_i75, if_neg hv])

theorem afterBoundary_acknowledgeIntr {b t : State} (haccepted : b.accepted = some .intr)
    (h : acknowledgeIntr b = .next t) : AfterBoundary b t := by
  obtain ⟨a, rfl⟩ := acknowledgeIntr_eq_callTo h
  exact {
    prev75 := by simp
    prevTrap := by simp
    lines := by simp
    mem_wf := fun hwf => callTo_wf a (by simpa using hwf)
    trapLatch := by simp [haccepted]
    i75 := .inl (by simp) }

theorem afterBoundary_idle {b : State} (haccepted : b.accepted = none) : AfterBoundary b b where
  prev75 := rfl
  prevTrap := rfl
  lines := rfl
  mem_wf := id
  trapLatch := by simp [haccepted]
  i75 := .inl rfl

theorem afterBoundary_instruction {b u w : State} {i : Instr} (p : Bool) (haccepted : b.accepted = none)
    (hhalted : b.halted = false) (fetched : b.fetch = .ok (i, u)) (hexec : exec i u = .next w) :
    AfterBoundary b (w.afterInstruction p i) := by
  have read : byte1 i = (b.memRead b.pc).1 := byte1_of_fetch_ok fetched
  obtain ⟨env, pc, rfl, lines, -⟩ := fetch_ok fetched
  obtain ⟨levels, trapLatch⟩ := exec_levels hexec
  exact {
    prev75 := by simpa using levels.prev75
    prevTrap := by simpa using levels.prevTrap
    lines := by simpa using levels.lines.trans lines
    mem_wf := fun hwf => by simpa using exec_mem_wf hexec hwf
    trapLatch := by simpa [haccepted] using trapLatch
    i75 := by
      rcases exec_i75 hexec with kept | ⟨isSim, clears⟩
      · exact .inl (by simpa using kept)
      · exact .inr (.inr ⟨haccepted, hhalted, read ▸ isSim, clears⟩) }

/-- A step resets at its sample, or goes on from its boundary. -/
theorem step_next_cases {s t : State} (h : step s = .next t) :
    (resetRequested s ∧ t = s.takeSample.resetEvent) ∨ (¬ resetRequested s ∧ AfterBoundary (atBoundary s) t) := by
  rcases step_cases s with
    ⟨hreset, reset⟩ | ⟨noReset, ⟨v, haccepted, entry⟩ | ⟨haccepted, intr⟩ | ⟨haccepted, -, idle⟩ | ⟨-, -, r, -, refused⟩ |
      ⟨haccepted, hhalted, i, u, fetched, ran⟩⟩
  · rw [reset] at h; cases h
    exact .inl ⟨hreset, rfl⟩
  all_goals
    right
    refine ⟨by simp [resetRequested, noReset], ?_⟩
  · rw [entry] at h; cases h
    exact afterBoundary_takeInterrupt haccepted
  · exact afterBoundary_acknowledgeIntr haccepted (intr ▸ h)
  · rw [idle] at h; cases h
    exact afterBoundary_idle haccepted
  · rw [refused] at h; cases h
  · obtain ⟨w, hexec, rfl⟩ := finishInstruction_next (ran ▸ h)
    exact afterBoundary_instruction _ haccepted (by simpa using hhalted) fetched hexec

/-! ### The invariant -/

/-- After a reset no level is remembered, and no request is latched (70_reset_and_hazards.md R280). -/
theorem resetEvent_inv {s : State} (hreset : s.env.lines.reset = true) (hwf : s.mem.wf = true) : s.resetEvent.Inv :=
  ⟨by simpa using hwf, by simp [hreset], by simp [hreset], by simp⟩

/-- A TRAP whose line is high at the boundary is accepted there, so it does not wait. -/
theorem AfterBoundary.trap_not_waiting {b t : State} (h : AfterBoundary b t) :
    (t.trapLatch && t.env.lines.trap) = false := by
  rw [h.trapLatch, h.lines]
  split
  next => rfl
  next notAccepted =>
    rw [accepted_eq_trap_iff, ← Bool.and_eq_true] at notAccepted
    exact Bool.eq_false_iff.mpr notAccepted

theorem AfterBoundary.inv {s t : State} (noReset : ¬ resetRequested s) (h : AfterBoundary (atBoundary s) t)
    (hwf : s.mem.wf = true) : t.Inv := by
  have notReset : s.takeSample.env.lines.reset = false := Bool.eq_false_iff.mpr noReset
  have levels : t.env.lines = s.takeSample.env.lines := h.lines
  refine ⟨h.mem_wf (by simpa using hwf), ?_, ?_, h.trap_not_waiting⟩
  · rw [h.prev75, levels, notReset]; simp
  · rw [h.prevTrap, levels, notReset]; simp

/-- Settles O45: only canonical memory needs the invariant of the state before; each step establishes the rest anew from its
sample. -/
theorem stepKeepsInvariant : Obligations.StepKeepsInvariant := by
  unfold Obligations.StepKeepsInvariant
  rintro s t ⟨hwf, -⟩ h
  rcases step_next_cases h with ⟨hreset, rfl⟩ | ⟨noReset, after⟩
  · exact resetEvent_inv hreset (by simpa using hwf)
  · exact after.inv noReset hwf

/-- Settles O40: a request latched before the step is latched at its boundary, and from there `AfterBoundary` says how it can
be lost. -/
theorem requestsStayLatched : Obligations.RequestsStayLatched := by
  unfold Obligations.RequestsStayLatched
  intro s t h
  rcases step_next_cases h with ⟨hreset, -⟩ | ⟨noReset, after⟩
  · exact ⟨fun _ _ => .inl hreset, fun _ _ => .inl hreset⟩
  refine ⟨fun latched lost => .inr ?_, fun latched lost => .inr ?_⟩
  · have latchedThere : (atBoundary s).i75 = true := (atBoundary_i75_iff s).mpr (.inl latched)
    rcases after.i75 with kept | accepted | ⟨haccepted, hhalted, isSim, clears⟩
    · rw [kept, latchedThere] at lost; cases lost
    · exact .inl accepted
    · rw [atBoundary_halted] at hhalted
      rw [atBoundary_pc] at isSim
      rw [atBoundary_regs] at clears
      exact .inr ⟨⟨noReset, haccepted, hhalted⟩, isSim, clears⟩
  · have latchedThere : (atBoundary s).trapLatch = true := (atBoundary_trapLatch_iff s).mpr (.inl latched)
    by_contra notAccepted
    rw [after.trapLatch, if_neg notAccepted, latchedThere] at lost
    cases lost

end Sys2Proof.Proofs

/-! Interrupt entry (spec/60_exceptions.md R251, R257 to R259): the whole next state of the four fixed-vector entries and of an
INTR acknowledge. -/

namespace Sys2Proof.Proofs

open Sys2Proof.Machine Sys2Proof.Spec

/-! ### The fixed vectors -/

/-- The control state that an entry may write is that of `c`, everything else that of `s`. -/
def withEntryControl (c s : State) : State :=
  { s with
    ie := c.ie
    eiPending := c.eiPending
    halted := c.halted
    ieAtTrap := c.ieAtTrap
    ieAtTrapValid := c.ieAtTrapValid
    trapLatch := c.trapLatch
    i75 := c.i75 }

/-- A memory write neither reads nor writes that control state. -/
theorem memWrite_withEntryControl (a : Word) (v : Byte) (c s : State) :
    (withEntryControl c s).memWrite a v = withEntryControl c (s.memWrite a v) := by
  have sameKind : (withEntryControl c s).kindAt a = s.kindAt a := rfl
  unfold State.memWrite
  rw [sameKind]
  cases s.kindAt a <;> rfl

theorem called_withEntryControl (a : Word) (c s : State) :
    called (withEntryControl c s) a = withEntryControl c (called s a) := by
  unfold called
  have sameSp : (withEntryControl c s).sp = s.sp := rfl
  have samePc : (withEntryControl c s).pc = s.pc := rfl
  rw [sameSp, samePc, memWrite_withEntryControl, memWrite_withEntryControl]
  rfl

/-- The IE that TRAP keeps, with the state after its draw: right after EI a draw (log 8); no other source draws (R259). -/
def keptAtEntry (v : Vectored) (s : State) : Bool × State :=
  if v = .trap ∧ s.eiPending = true then s.anyBit else (s.ie, s)

/-- Answering the request and clearing writes that control state alone, after the draw. -/
theorem clearForEntry_answerRequest (v : Vectored) (s : State) :
    (s.answerRequest v).clearForEntry =
      withEntryControl
        { s with
          ie := false
          eiPending := false
          halted := false
          ieAtTrap := if v = .trap then (keptAtEntry v s).1 else s.ieAtTrap
          ieAtTrapValid := if v = .trap then true else s.ieAtTrapValid
          trapLatch := if v = .trap then false else s.trapLatch
          i75 := if v = .rst75 then false else s.i75 }
        (keptAtEntry v s).2 := by
  cases v with
  | trap => cases h : s.eiPending <;> simp [h, keptAtEntry, State.answerRequest, State.clearForEntry, withEntryControl]
  | rst75 | rst65 | rst55 => simp [keptAtEntry, State.answerRequest, State.clearForEntry, withEntryControl]

theorem vector_eq (v : Vectored) :
    v.vector = if v = .trap then 0x0024 else if v = .rst75 then 0x003C else if v = .rst65 then 0x0034 else 0x002C := by
  cases v <;> rfl

/-- The draw leaves SP and PC alone. -/
theorem keptAtEntry_sp_pc (v : Vectored) (s : State) :
    (keptAtEntry v s).2.sp = s.sp ∧ (keptAtEntry v s).2.pc = s.pc := by
  unfold keptAtEntry
  split <;> simp

/-- Settles O37: the entry is a call, which the control state written before it does not touch. -/
theorem vectoredEntry : Obligations.VectoredEntry := by
  unfold Obligations.VectoredEntry
  intro s v hreset haccepted b drawn
  obtain ⟨hsp, hpc⟩ : drawn.2.sp = b.sp ∧ drawn.2.pc = b.pc := keptAtEntry_sp_pc v b
  rw [step_of_vectored hreset haccepted, State.takeInterrupt, callTo_eq_called, clearForEntry_answerRequest,
    called_withEntryControl, vector_eq, ← hsp, ← hpc]
  rfl

/-! ### INTR -/

/-- What the device supplies does not turn on what the entry clears. -/
theorem intaReply_clearForEntry (s : State) :
    s.clearForEntry.intaReply = (s.intaReply.1, s.intaReply.2.clearForEntry) := by
  have sameEnv : s.clearForEntry.env = s.env := rfl
  unfold State.intaReply
  rw [sameEnv]
  split <;> rfl

theorem step_of_intr {s : State} (hreset : ¬ resetRequested s) (haccepted : (atBoundary s).accepted = some .intr) :
    step s = acknowledgeIntr (atBoundary s) := by
  have hcycle : step s = boundary (atBoundary s) := if_neg hreset
  simp only [hcycle, boundary, haccepted]

/-- The device supplied the bytes of RST or CALL: it is run after what every entry clears, PC not moved (R258). -/
theorem acknowledgeIntr_of_allowed {s : State} {i : Instr} {rest : List Byte}
    (hbytes : encode i ++ rest = [s.intaReply.1.op, s.intaReply.1.byte2, s.intaReply.1.byte3])
    (allowed : Instr.allowedAtInta i = true) : acknowledgeIntr s = exec i s.intaReply.2.clearForEntry := by
  simp only [acknowledgeIntr, intaReply_clearForEntry, ← hbytes, decode_encode_append, allowed, if_true]

/-- Byte 1 of what an acknowledge may run is that of RST or CALL. -/
theorem byte1_of_allowedAtInta {i : Instr} (h : Instr.allowedAtInta i = true) :
    (∃ n : BitVec 3, byte1 i = op 3 n 7) ∨ byte1 i = 0xCD := by
  cases i with
  | rst0 => exact .inl ⟨0, rfl⟩
  | rst1 => exact .inl ⟨1, rfl⟩
  | rst2 => exact .inl ⟨2, rfl⟩
  | rst3 => exact .inl ⟨3, rfl⟩
  | rst4 => exact .inl ⟨4, rfl⟩
  | rst5 => exact .inl ⟨5, rfl⟩
  | rst6 => exact .inl ⟨6, rfl⟩
  | rst7 => exact .inl ⟨7, rfl⟩
  | call _ => exact .inr rfl
  | _ => cases h

/-- The instruction that bytes decode to begins with the first of them. -/
theorem byte1_of_decode {b : Byte} {operands rest : List Byte} {i : Instr}
    (h : decode (b :: operands) = .ok (i, rest)) : byte1 i = b := by
  obtain ⟨b', bs, hi⟩ := List.exists_cons_of_ne_nil (encode_ne_nil i)
  have hbytes := encode_append_of_decode h
  rw [hi] at hbytes
  rw [byte1_of_encode_cons hi, List.head_eq_of_cons_eq hbytes]

theorem acknowledgeIntr_refused {s : State} (notRst : ∀ n : BitVec 3, s.intaReply.1.op ≠ op 3 n 7)
    (notCall : s.intaReply.1.op ≠ 0xCD) : acknowledgeIntr s = .refused (.intaNotRstOrCall s.intaReply.1.op) := by
  simp only [acknowledgeIntr, intaReply_clearForEntry]
  split
  next i rest hdecode =>
    have hop : byte1 i = s.intaReply.1.op := byte1_of_decode hdecode
    refine if_neg fun allowed => ?_
    rcases byte1_of_allowedAtInta allowed with ⟨n, hn⟩ | hcall
    · exact notRst n (hop ▸ hn)
    · exact notCall (hop ▸ hcall)
  next => rfl

/-- Every value `11 nnn 111` is the encoding of an RST, which an acknowledge may run. -/
theorem exists_rst (n : BitVec 3) : ∃ i, encode i = [op 3 n 7] ∧ Instr.allowedAtInta i = true := by
  obtain ⟨code, hcode, rfl⟩ := exists_lt_eq_ofNat n
  interval_cases code
  · exact ⟨.rst0, rfl, rfl⟩
  · exact ⟨.rst1, rfl, rfl⟩
  · exact ⟨.rst2, rfl, rfl⟩
  · exact ⟨.rst3, rfl, rfl⟩
  · exact ⟨.rst4, rfl, rfl⟩
  · exact ⟨.rst5, rfl, rfl⟩
  · exact ⟨.rst6, rfl, rfl⟩
  · exact ⟨.rst7, rfl, rfl⟩

/-- Settles O38: the bytes of RST and CALL run their call; any other byte 1 is refused. -/
theorem intrEntry : Obligations.IntrEntry := by
  unfold Obligations.IntrEntry
  intro s hreset haccepted r c
  rw [step_of_intr hreset haccepted]
  refine ⟨fun n rst => ?_, fun call => ?_, acknowledgeIntr_refused⟩
  · obtain ⟨i, hi, allowed⟩ := exists_rst n
    have hbytes : encode i ++ [r.1.byte2, r.1.byte3] = [r.1.op, r.1.byte2, r.1.byte3] := by rw [hi, rst]; rfl
    rw [acknowledgeIntr_of_allowed hbytes allowed, exec_of_encode_restart hi, ← callTo_eq_called]
    rfl
  · have hbytes : encode (.call (joinBytes r.1.byte3 r.1.byte2)) ++ [] = [r.1.op, r.1.byte2, r.1.byte3] := by
      simp [encode, call]
    rw [acknowledgeIntr_of_allowed hbytes rfl, ← callTo_eq_called]
    rfl

end Sys2Proof.Proofs

/-! Completion (spec/60_exceptions.md R250, 30_encoding.md R90): the 8085 has no synchronous exception, so every instruction
but the ten undefined values answers a next state. -/

namespace Sys2Proof.Proofs

open Sys2Proof.Machine Sys2Proof.Spec

/-- The terms that stand for an undefined value are those that its byte encodes. -/
theorem undefinedOpcode?_eq_some_iff {i : Instr} {b : Byte} :
    i.undefinedOpcode? = some b ↔ b ∈ undefinedOpcodes ∧ encode i = [b] := by
  constructor
  · intro h
    cases i with
    | undef08 | undef10 | undef18 | undef28 | undef38 | undefCB | undefD9 | undefDD | undefED | undefFD =>
      cases h
      exact ⟨by decide, rfl⟩
    | _ => cases h
  · rintro ⟨hb, h⟩
    fin_cases hb <;> (obtain rfl := eq_of_encode h rfl; rfl)

theorem wellFormed_iff {i : Instr} : i.wellFormed = true ↔ ∀ b ∈ undefinedOpcodes, encode i ≠ [b] := by
  simp only [Instr.wellFormed, Option.isNone_iff_eq_none, Option.eq_none_iff_forall_ne_some, ne_eq,
    undefinedOpcode?_eq_some_iff, not_and]

/-- Every defined instruction answers a next state: no row but the ten undefined ones is anything else (60 R250). -/
theorem exec_next_of_wellFormed {i : Instr} (h : i.wellFormed = true) (s : State) : ∃ t, exec i s = .next t := by
  cases i with
  | undef08 | undef10 | undef18 | undef28 | undef38 | undefCB | undefD9 | undefDD | undefED | undefFD => cases h
  | _ => exact ⟨_, rfl⟩

/-- An undefined value is refused (30_encoding.md R90), so what answers a next state is none of the ten. -/
theorem encode_ne_undefined_of_exec_next {i : Instr} {s t : State} (h : exec i s = .next t) :
    ∀ b ∈ undefinedOpcodes, encode i ≠ [b] := by
  intro b hb hi
  rw [undefinedOpcodesRefused i b s hb hi] at h
  cases h

/-- Settles O49: the defined instructions by `exec_next_of_wellFormed`, the undefined values by their refusal. -/
theorem definedInstructionsComplete : Obligations.DefinedInstructionsComplete := by
  unfold Obligations.DefinedInstructionsComplete
  intro i s
  refine ⟨⟨fun defined => exec_next_of_wellFormed defined s, ?_⟩, wellFormed_iff⟩
  rintro ⟨t, h⟩
  exact wellFormed_iff.mpr (encode_ne_undefined_of_exec_next h)

end Sys2Proof.Proofs

/-! Reset (spec/70_reset_and_hazards.md R280): a step whose sample requests it does nothing else. -/

namespace Sys2Proof.Proofs

open Sys2Proof.Machine Sys2Proof.Spec

/-- The reset event has priority over everything (R280): nothing is latched, accepted, fetched or executed. -/
theorem step_of_resetRequested {s : State} (hreset : resetRequested s) : step s = .next s.takeSample.resetEvent :=
  if_pos hreset

/-- Settles O33: the step is the reset event on the sampled state, and that event writes the fields the rule lists. -/
theorem resetEventSetsState : Obligations.ResetEventSetsState := by
  unfold Obligations.ResetEventSetsState
  intro s hreset
  rw [step_of_resetRequested hreset, State.resetEvent]

end Sys2Proof.Proofs
